-- ==== Sys2Proof/Word.lean ====
section
/-! DEFINITION. The plainest types of the PM62: bytes, timestamps, the numbers that name players, devices, modes and
switches, and the one way a table of fixed size is updated. -/

namespace Sys2Proof

/-- A byte on the serial link. -/
abbrev Byte := BitVec 8

/-- A value of the 16-bit millisecond clock, which wraps from 65,535 to 0 (00_scope.md, Conventions). -/
abbrev Stamp := BitVec 16

/-- Player `p` of the manual, 1 to 4, is the index `p - 1`. -/
abbrev PlayerId := Fin 4

/-- Devices are numbered 0 to 7: 0 the trough, 1 the shooter lane, 2 to 7 hold devices. -/
abbrev DeviceId := Fin 8

/-- Modes are numbered 0 to 31. -/
abbrev ModeId := Fin 32

/-- Physical switches are numbered 0 to 71. -/
abbrev SwitchId := Fin 72

/-- Sources are numbered 0 to 95: 0 to 71 switches, 72 to 79 device hits, 80 to 95 virtual sources. -/
abbrev SourceId := Fin 96

/-- One entry of a table of fixed size is changed; every other entry keeps its value. -/
def upd {α : Type} {n : Nat} (t : Vector α n) (i : Fin n) (f : α → α) : Vector α n := t.set i (f t[i])

/-- Every entry of a table of fixed size is changed, each by its number and its value. -/
def updAll {α : Type} {n : Nat} (t : Vector α n) (f : Fin n → α → α) : Vector α n := Vector.ofFn fun i => f i t[i]

end Sys2Proof
end

