-- ==== Sys2Proof/Config.lean ====
section
/-! DEFINITION. What the manual leaves open as a value: constants without a body, which no proof can evaluate. -/

namespace Sys2Proof

/-- The bytes put on TXD for a frame whose payload exceeds the 240 bytes the length byte can give (R179, section 10.9).
The manual gives READ_STACK a result that can be longer and does not say what the part then sends: a FREE VALUE of the
kind, the tag and the payload (log 22). -/
opaque Config.overlongFrame : Byte → Byte → List Byte → List Byte

end Sys2Proof
end

