-- ==== Sys2Proof/Syntax.lean ====
section
/-! DEFINITION. The commands of the PM62: one constructor per row of spec/opcode_table.json, in the table's order. A host
command carries the tag and the payload of its frame (R182); an event of the part carries the number of the switch,
device or mode at which it falls. -/

namespace Sys2Proof

/-- One step of the part, as the table of operations and events lists them (95_what_each_step_holds.md). -/
inductive Instr where
  /-- COLD_RESET (R191): RESET_N returns high or the supply comes up. -/
  | coldReset
  /-- RESET_HOLD (R191): RESET_N is driven low. -/
  | resetHold
  /-- ACCEPTED_CHANGE (R2): the change of switch `sw` that has qualified is accepted and routed. -/
  | acceptedChange (sw : SwitchId)
  /-- STUCK_TIMER_EXPIRY (R10): the stuck timer of switch `sw` expires. -/
  | stuckTimerExpiry (sw : SwitchId)
  /-- SETTLE_TIMER_EXPIRY (R19): the settle timer of device `d` expires. -/
  | settleTimerExpiry (d : DeviceId)
  /-- HOLD_TIMER_EXPIRY (R24): the hold timer of the oldest due entry of device `d` expires. -/
  | holdTimerExpiry (d : DeviceId)
  /-- PULSE_END (R29): the pulse time of device `d` has run. -/
  | pulseEnd (d : DeviceId)
  /-- CONFIRM_WINDOW_END (R30): the confirm window of device `d` ends. -/
  | confirmWindowEnd (d : DeviceId)
  /-- RECOVERY_END (R33): the 200 ms pause of device `d` ends. -/
  | recoveryEnd (d : DeviceId)
  /-- SPACING_END (R32): the 500 ms pause of device `d` ends. -/
  | spacingEnd (d : DeviceId)
  /-- LAUNCH_CONFIRMED (R39): the shooter has stayed at 0 for 750 ms. -/
  | launchConfirmed
  /-- AUTO_LAUNCH_DELAY_END (R42): the 500 ms auto-launch delay expires. -/
  | autoLaunchDelayEnd
  /-- COIL_POWER_ABSENT (R35): COIL_PWR has read low for 10 samples. -/
  | coilPowerAbsent
  /-- COIL_POWER_PRESENT (R35): COIL_PWR has read high for 10 samples. -/
  | coilPowerPresent
  /-- PLAYFIELD_QUIET (R57): the playfield has become quiet. -/
  | playfieldQuiet
  /-- SEARCH_STEP (R58): the 400 ms step timer expires. -/
  | searchStep
  /-- SAVE_EXPIRY (R80): the remaining save time has reached 0. -/
  | saveExpiry
  /-- MODE_EXPIRY (R132): the running frame of mode `m` expires. -/
  | modeExpiry (m : ModeId)
  /-- HIT_RESOLUTION (R147): one repeat of the front hit is taken and resolved. -/
  | hitResolution
  /-- FRAME_RECEIVED (R179): the frame received whole is checked. -/
  | frameReceived
  /-- BYTE_ERROR (R178): a framing error or a break. -/
  | byteError
  /-- FRAME_TIMEOUT (R180): more than 20 ms have passed between bytes of a frame. -/
  | frameTimeout
  /-- UNKNOWN_KIND (R182): a frame whose kind is not a command kind is taken. -/
  | unknownKind (kind tag : Byte) (payload : List Byte)
  /-- FRAME_SENT (R198): the line is free and the transmitter sends the next frame. -/
  | frameSent
  /-- SET_SWITCH (R6): the host command SET_SWITCH. -/
  | setSwitch (tag : Byte) (payload : List Byte)
  /-- SET_FILTER (R3): the host command SET_FILTER. -/
  | setFilter (tag : Byte) (payload : List Byte)
  /-- SET_DEVICE (R18): the host command SET_DEVICE. -/
  | setDevice (tag : Byte) (payload : List Byte)
  /-- SET_GAME (R187): the host command SET_GAME. -/
  | setGame (tag : Byte) (payload : List Byte)
  /-- SET_MODE (R107): the host command SET_MODE. -/
  | setMode (tag : Byte) (payload : List Byte)
  /-- SET_POOL (R175): the host command SET_POOL. -/
  | setPool (tag : Byte) (payload : List Byte)
  /-- SET_THRESHOLD (R168): the host command SET_THRESHOLD. -/
  | setThreshold (tag : Byte) (payload : List Byte)
  /-- LOAD_AWARDS (R144): the host command LOAD_AWARDS. -/
  | loadAwards (tag : Byte) (payload : List Byte)
  /-- RUN (R189): the host command RUN. -/
  | run (tag : Byte) (payload : List Byte)
  /-- RESTART (R190): the host command RESTART. -/
  | restart (tag : Byte) (payload : List Byte)
  /-- START_GAME (R66): the host command START_GAME. -/
  | startGame (tag : Byte) (payload : List Byte)
  /-- ADD_PLAYER (R74): the host command ADD_PLAYER. -/
  | addPlayer (tag : Byte) (payload : List Byte)
  /-- ADVANCE_BALL (R72): the host command ADVANCE_BALL. -/
  | advanceBall (tag : Byte) (payload : List Byte)
  /-- END_GAME (R77): the host command END_GAME. -/
  | endGame (tag : Byte) (payload : List Byte)
  /-- SET_PLAYFIELD_MULT (R162): the host command SET_PLAYFIELD_MULT. -/
  | setPlayfieldMult (tag : Byte) (payload : List Byte)
  /-- START_SAVE (R81): the host command START_SAVE. -/
  | startSave (tag : Byte) (payload : List Byte)
  /-- LIGHT_LOCK (R88): the host command LIGHT_LOCK. -/
  | lightLock (tag : Byte) (payload : List Byte)
  /-- ADD_BALL (R100): the host command ADD_BALL. -/
  | addBall (tag : Byte) (payload : List Byte)
  /-- START_MODE (R117): the host command START_MODE. -/
  | startMode (tag : Byte) (payload : List Byte)
  /-- STOP_MODE (R120): the host command STOP_MODE. -/
  | stopMode (tag : Byte) (payload : List Byte)
  /-- ADVANCE_MODE (R135): the host command ADVANCE_MODE. -/
  | advanceMode (tag : Byte) (payload : List Byte)
  /-- HIT (R15): the host command HIT. -/
  | hit (tag : Byte) (payload : List Byte)
  /-- RETRY_DEVICE (R34): the host command RETRY_DEVICE. -/
  | retryDevice (tag : Byte) (payload : List Byte)
  /-- LAUNCH_BALL (R43): the host command LAUNCH_BALL. -/
  | launchBall (tag : Byte) (payload : List Byte)
  /-- IDENTIFY (R192): the host command IDENTIFY. -/
  | identify (tag : Byte) (payload : List Byte)
  /-- READ_PLAYER (R85): the host command READ_PLAYER. -/
  | readPlayer (tag : Byte) (payload : List Byte)
  /-- READ_STACK (R128): the host command READ_STACK. -/
  | readStack (tag : Byte) (payload : List Byte)
  /-- READ_BALLS (R62): the host command READ_BALLS. -/
  | readBalls (tag : Byte) (payload : List Byte)
  /-- READ_SWITCHES (R16): the host command READ_SWITCHES. -/
  | readSwitches (tag : Byte) (payload : List Byte)
  /-- READ_POOLS (R176): the host command READ_POOLS. -/
  | readPools (tag : Byte) (payload : List Byte)
  /-- READ_VAR (R159): the host command READ_VAR. -/
  | readVar (tag : Byte) (payload : List Byte)
  /-- WRITE_VAR (R159): the host command WRITE_VAR. -/
  | writeVar (tag : Byte) (payload : List Byte)
  /-- SWAP_VAR (R160): the host command SWAP_VAR. -/
  | swapVar (tag : Byte) (payload : List Byte)
  /-- READ_NOTICES (R202): the host command READ_NOTICES. -/
  | readNotices (tag : Byte) (payload : List Byte)
  /-- CLEAR_NOTICES (R200): the host command CLEAR_NOTICES. -/
  | clearNotices (tag : Byte) (payload : List Byte)
  /-- SET_NOTICE_MASK (R201): the host command SET_NOTICE_MASK. -/
  | setNoticeMask (tag : Byte) (payload : List Byte)
  /-- MILLISECOND_TICK (R1): one millisecond passes: `raw` is the raw reading of the 72 switches (bit n is switch n, 1 = contact) and `coilPwr` the COIL_PWR input at its sample. -/
  | millisecondTick (raw : BitVec 72) (coilPwr : Bool)
  /-- BYTE_RECEIVED (R179): the byte `b` arrives on RXD. -/
  | byteReceived (b : Byte)
deriving DecidableEq, Repr

end Sys2Proof
end

