-- ==== Sys2Proof/Decode.lean ====
section
/-! DEFINITION. Which command a word spells (none: the table gives no row any bits) and which command row takes a frame
of the serial link: the kind codes of the command catalogue (section 10.4, R182). -/

namespace Sys2Proof

/-- No row of spec/opcode_table.json gives bits, so no word spells a command. -/
def decodeTableWord (_nbits _w : Nat) : Option Instr := none

/-- The kinds of the command catalogue: from 0x10 for the setup commands, from 0x20 for the game commands and from 0x30
for the query commands, upward in the catalogue's order (R182 check 1). -/
def isCommandKind (k : Byte) : Bool :=
  (0x10 ≤ k.toNat && k.toNat ≤ 0x19) || (0x20 ≤ k.toNat && k.toNat ≤ 0x2D) || (0x30 ≤ k.toNat && k.toNat ≤ 0x3B)

/-- The frame (kind, tag, payload) that a command row takes from the command buffer; `none` for a row that is not the
taking of a frame. -/
def hostFrame : Instr → Option (Byte × Byte × List Byte)
  | .coldReset => none
  | .resetHold => none
  | .acceptedChange _ => none
  | .stuckTimerExpiry _ => none
  | .settleTimerExpiry _ => none
  | .holdTimerExpiry _ => none
  | .pulseEnd _ => none
  | .confirmWindowEnd _ => none
  | .recoveryEnd _ => none
  | .spacingEnd _ => none
  | .launchConfirmed => none
  | .autoLaunchDelayEnd => none
  | .coilPowerAbsent => none
  | .coilPowerPresent => none
  | .playfieldQuiet => none
  | .searchStep => none
  | .saveExpiry => none
  | .modeExpiry _ => none
  | .hitResolution => none
  | .frameReceived => none
  | .byteError => none
  | .frameTimeout => none
  | .unknownKind k tag p => some (k, tag, p)
  | .frameSent => none
  | .setSwitch tag p => some (0x10, tag, p)
  | .setFilter tag p => some (0x11, tag, p)
  | .setDevice tag p => some (0x12, tag, p)
  | .setGame tag p => some (0x13, tag, p)
  | .setMode tag p => some (0x14, tag, p)
  | .setPool tag p => some (0x15, tag, p)
  | .setThreshold tag p => some (0x16, tag, p)
  | .loadAwards tag p => some (0x17, tag, p)
  | .run tag p => some (0x18, tag, p)
  | .restart tag p => some (0x19, tag, p)
  | .startGame tag p => some (0x20, tag, p)
  | .addPlayer tag p => some (0x21, tag, p)
  | .advanceBall tag p => some (0x22, tag, p)
  | .endGame tag p => some (0x23, tag, p)
  | .setPlayfieldMult tag p => some (0x24, tag, p)
  | .startSave tag p => some (0x25, tag, p)
  | .lightLock tag p => some (0x26, tag, p)
  | .addBall tag p => some (0x27, tag, p)
  | .startMode tag p => some (0x28, tag, p)
  | .stopMode tag p => some (0x29, tag, p)
  | .advanceMode tag p => some (0x2A, tag, p)
  | .hit tag p => some (0x2B, tag, p)
  | .retryDevice tag p => some (0x2C, tag, p)
  | .launchBall tag p => some (0x2D, tag, p)
  | .identify tag p => some (0x30, tag, p)
  | .readPlayer tag p => some (0x31, tag, p)
  | .readStack tag p => some (0x32, tag, p)
  | .readBalls tag p => some (0x33, tag, p)
  | .readSwitches tag p => some (0x34, tag, p)
  | .readPools tag p => some (0x35, tag, p)
  | .readVar tag p => some (0x36, tag, p)
  | .writeVar tag p => some (0x37, tag, p)
  | .swapVar tag p => some (0x38, tag, p)
  | .readNotices tag p => some (0x39, tag, p)
  | .clearNotices tag p => some (0x3A, tag, p)
  | .setNoticeMask tag p => some (0x3B, tag, p)
  | .millisecondTick _ _ => none
  | .byteReceived _ => none

/-- The command row that takes a frame of this kind, tag and payload: its kind's command, or UNKNOWN_KIND for a kind
that is not a command kind (R182). -/
def rowOfFrame (kind tag : Byte) (p : List Byte) : Instr :=
  match kind with
  | 0x10 => .setSwitch tag p
  | 0x11 => .setFilter tag p
  | 0x12 => .setDevice tag p
  | 0x13 => .setGame tag p
  | 0x14 => .setMode tag p
  | 0x15 => .setPool tag p
  | 0x16 => .setThreshold tag p
  | 0x17 => .loadAwards tag p
  | 0x18 => .run tag p
  | 0x19 => .restart tag p
  | 0x20 => .startGame tag p
  | 0x21 => .addPlayer tag p
  | 0x22 => .advanceBall tag p
  | 0x23 => .endGame tag p
  | 0x24 => .setPlayfieldMult tag p
  | 0x25 => .startSave tag p
  | 0x26 => .lightLock tag p
  | 0x27 => .addBall tag p
  | 0x28 => .startMode tag p
  | 0x29 => .stopMode tag p
  | 0x2A => .advanceMode tag p
  | 0x2B => .hit tag p
  | 0x2C => .retryDevice tag p
  | 0x2D => .launchBall tag p
  | 0x30 => .identify tag p
  | 0x31 => .readPlayer tag p
  | 0x32 => .readStack tag p
  | 0x33 => .readBalls tag p
  | 0x34 => .readSwitches tag p
  | 0x35 => .readPools tag p
  | 0x36 => .readVar tag p
  | 0x37 => .writeVar tag p
  | 0x38 => .swapVar tag p
  | 0x39 => .readNotices tag p
  | 0x3A => .clearNotices tag p
  | 0x3B => .setNoticeMask tag p
  | k => .unknownKind k tag p

end Sys2Proof
end

