-- ==== Sys2Proof/Machine/State.lean ====
section
/-! DEFINITION. Everything the PM62 holds, block by block as 00_scope.md lists them, as plain data; the reports it queues;
and the state right after a cold reset. Decimal values are natural numbers whose digits the Score Arithmetic Unit works on
(log 31). A timer is the internal millisecond at which it expires. -/

namespace Sys2Proof.Machine

/-! ## Switch Scanner -/

/-- The use a physical switch is put to (R7). -/
inductive Role where
  | inactive | playfield | device | start | tilt | slam
deriving DecidableEq, Repr

/-- An entry of the source table (section 1.3). Sources 72 to 95 use `offset` and `reportFlag` alone (R6). -/
structure Source where
  role : Role
  inverted : Bool
  cls : Fin 4
  offset : Nat
  reportFlag : Bool
  stuckTime : Nat
deriving DecidableEq, Repr

/-- A filter class: the samples a closure and an opening must last (R3). -/
structure FilterClass where
  closeTime : Nat
  openTime : Nat
deriving DecidableEq, Repr

/-- The filter and stuck state of one physical switch (R2, R10). `qualified` is the model's mark that the latest sample
completed the qualification, so that the change is to be accepted and routed (log 3). -/
structure Switch where
  filtered : Bool
  count : Nat
  qualified : Bool
  stuck : Bool
  stuckAt : Option Nat
deriving DecidableEq, Repr

/-- What the part takes the coil supply to be (R35): nothing before its first reading. -/
inductive Power where
  | unread | present | absent
deriving DecidableEq, Repr

/-- The Switch Scanner, with the COIL_PWR input: the latest samples and what is derived from them. -/
structure Scanner where
  sampled : Bool
  raw : BitVec 72
  switches : Vector Switch 72
  sources : Vector Source 96
  classes : Vector FilterClass 4
  power : Power
  highRun : Nat
  lowRun : Nat
deriving DecidableEq, Repr

/-! ## Ball Device Controller -/

/-- The kind of a device record (R17). -/
inductive DeviceKind where
  | unused | trough | launch | hold
deriving DecidableEq, Repr

/-- A device record (R17). -/
structure DeviceRecord where
  kind : DeviceKind
  capacity : Nat
  switches : List SwitchId
  pulse : Nat
  confirm : Nat
  settle : Nat
  hold : Nat
  lockable : Bool
  goal : Nat
  searchEligible : Bool
  launchCoil : Bool
  autoLaunch : Bool
deriving DecidableEq, Repr

/-- What a held ball is for (R21). -/
inductive Tag where
  | spare | locked (p : PlayerId) | parked | stray | releasing
deriving DecidableEq, Repr

/-- An entry of a held-ball list (R21), with its hold timer while it is PARKED or STRAY (R24). -/
structure Held where
  tag : Tag
  arrival : Stamp
  holdAt : Option Nat
deriving DecidableEq, Repr

/-- The purpose of an eject request (R25). -/
inductive Purpose where
  | serve | launch | release | search
deriving DecidableEq, Repr

/-- An entry of an eject request queue (R25). -/
structure Request where
  purpose : Purpose
  count : Nat
deriving DecidableEq, Repr

/-- The eject machine (section 2.5). WAIT_COIL holds the millisecond at which the device began to wait (R28); PULSING and
CONFIRMING hold when they end and when the attempt's exit was observed (R30); a CONFIRMING without an end is a launch whose
window has ended with its launch confirmation open (R40). -/
inductive Eject where
  | off
  | idle
  | waitCoil (since : Nat)
  | pulsing (endsAt : Nat) (exitAt : Option Nat)
  | confirming (endsAt : Option Nat) (exitAt : Option Nat)
  | recovering (endsAt : Nat)
  | spacing (endsAt : Nat)
  | waitPower
  | jammed
deriving DecidableEq, Repr

/-- One ball device: its record and everything it holds (R17 to R34, R55). -/
structure Device where
  record : DeviceRecord
  copies : List Bool
  settled : Nat
  settleAt : Option Nat
  held : List Held
  queue : List Request
  eject : Eject
  attempts : Nat
  suspect : Bool
deriving DecidableEq, Repr

/-- A late exit at the trough (R38): none is open, one is judged by outcomes 1 and 2 of R36, or one by outcome 2 alone. -/
inductive LateExit where
  | none | judged | lostOnly
deriving DecidableEq, Repr

/-- The Ball Device Controller: the devices, and what only the trough (R37, R38) and the shooter lane (R39, R42) have. The
launch attempt of R40 is open while device 1 is PULSING or CONFIRMING. -/
structure DeviceUnit where
  devices : Vector Device 8
  launchAt : Option Nat
  autoAt : Option Nat
  late : LateExit
  reconciling : Bool
deriving DecidableEq, Repr

/-! ## Ball Tracker -/

/-- Search state (section 3.4): SEARCHING has a round, the last device searched in it and the step timer. -/
inductive Search where
  | idle
  | searching (round : Nat) (last : Option DeviceId) (stepAt : Nat)
deriving DecidableEq, Repr

/-- The Ball Tracker's own counts (R46) and search. The device counts are the lengths of the held-ball lists. -/
structure Tracker where
  free : Nat
  missing : Nat
  lastActivity : Nat
  search : Search
deriving DecidableEq, Repr

/-! ## Game Controller -/

/-- The seven settings of SET_GAME (R187). -/
structure Settings where
  installed : Nat
  ballsPerGame : Nat
  saveSeconds : Nat
  tiltLimit : Nat
  searchDelay : Nat
  baseBase : Nat
  baseLength : Nat
deriving DecidableEq, Repr

/-- The game state (R64). -/
inductive GameState where
  | noGame | serving | ready | inPlay | ballOver
deriving DecidableEq, Repr

/-- The ball save state (R80). -/
inductive Save where
  | off | armed | counting
deriving DecidableEq, Repr

/-- A player's record (R65). `reached` has one mark per threshold 1, 2, 3. -/
structure Player where
  score : Nat
  bonus : Nat
  bonusMult : Nat
  fieldMult : Nat
  extraBalls : Nat
  warnings : Nat
  reached : Vector Bool 3
  limitReported : Bool
deriving DecidableEq, Repr

/-- The Game Controller (R64, R65). `lastWarning` is on the internal millisecond count (R78). -/
structure Game where
  state : GameState
  players : Nat
  current : Option PlayerId
  ball : Nat
  tilted : Bool
  lastWarning : Option Nat
  multiball : Bool
  save : Save
  saveLeft : Nat
  records : Vector Player 4
deriving DecidableEq, Repr

/-! ## Lock Manager -/

/-- A lock record: locks ready to be made, and locks made (R86). -/
structure Lock where
  lit : Nat
  made : Nat
deriving DecidableEq, Repr

/-- The twenty-four lock records: for each player, one for each of the devices 2 to 7 (R86). -/
structure LockUnit where
  records : Vector (Vector Lock 6) 4
deriving DecidableEq, Repr

/-! ## Mode Stack Unit -/

/-- What a start does while its mode runs (R112). -/
inductive Policy where
  | ignore | extend | restart
deriving DecidableEq, Repr

/-- The progress counter of a mode (R137, R138). -/
inductive Counter where
  | none | count | free
deriving DecidableEq, Repr

/-- A mode descriptor (R106). -/
structure Descriptor where
  defined : Bool
  priority : Nat
  group : Nat
  pageBase : Nat
  pageLength : Nat
  own : Nat
  depth : Nat
  duration : Nat
  policy : Policy
  counter : Counter
  goal : Nat
  threshold : Nat
  carry : Bool
  endWithMultiball : Bool
  completion : Option Nat
  expiry : Option Nat
  lap : Option Nat
deriving DecidableEq, Repr

/-- A frame of the stack (R109); a `remaining` of `none` is the untimed marker. `expiring` is the model's mark that the
millisecond's decrease, which would have brought the remaining time to 0, is still owed: taken, it is the frame's expiry, or
where the time has been set anew one millisecond of it (R130, R132, log 20). -/
structure Frame where
  mode : ModeId
  serial : Nat
  inherited : Nat
  remaining : Option Nat
  expiring : Bool
  counter : Nat
  since : Nat
  laps : Nat
deriving DecidableEq, Repr

/-- A frame of a carried list: what a suspended frame keeps (R123). -/
structure Carried where
  mode : ModeId
  remaining : Option Nat
  counter : Nat
  since : Nat
  laps : Nat
deriving DecidableEq, Repr

/-- The Mode Stack Unit: descriptors, the stack from the top, the carried lists from the front, the serial counter. -/
structure ModeUnit where
  descriptors : Vector Descriptor 32
  stack : List Frame
  carried : Vector (List Carried) 4
  serial : Nat
deriving DecidableEq, Repr

/-! ## Hit Resolver -/

/-- An entry of the hit queue (section 1.6). -/
structure Hit where
  source : SourceId
  stamp : Stamp
  repeats : Nat
deriving DecidableEq, Repr

/-- Where an award's points come from (R143). -/
inductive Points where
  | fixed | poolCollect (j : Fin 8) | poolAdd (j : Fin 8)
deriving DecidableEq, Repr

/-- The test on a player variable that an award must pass (R150). -/
inductive Condition where
  | none | varSet (v : Fin 16) | varTake (v : Fin 16)
deriving DecidableEq, Repr

/-- The action of an award (R152). An ADVANCE whose target is `none` is an ADVANCE of the own frame (R134). -/
inductive Action where
  | none
  | lightLock (d : DeviceId)
  | startMode (m : ModeId)
  | stopMode (m : ModeId)
  | advance (target : Option ModeId) (n : Nat)
  | startSave (seconds : Nat)
  | addBall
  | extraBall
  | bonusMultUp
  | countVar (v : Fin 16) (n : Nat)
deriving DecidableEq, Repr

/-- An entry of the award table: EMPTY, or an AWARD with its fields (R143). -/
inductive Award where
  | empty
  | award (source : Points) (multiplied passThrough : Bool) (value bonusAdd : Nat) (condition : Condition)
      (action : Action)
deriving DecidableEq, Repr

/-- The Hit Resolver. `awards` lists, by rising address, the entries of the award table that are not EMPTY. -/
structure HitUnit where
  queue : List Hit
  awards : List (Nat × Award)
  vars : Vector (Vector Nat 16) 4
deriving DecidableEq, Repr

/-! ## Score Arithmetic Unit -/

/-- A pool's scope with its value: one for SHARED, one for each player for PLAYER (R172). -/
inductive PoolValue where
  | shared (v : Nat) | player (v : Vector Nat 4)
deriving DecidableEq, Repr

/-- A pool (R172). -/
structure Pool where
  base : Nat
  cap : Nat
  value : PoolValue
deriving DecidableEq, Repr

/-- The Score Arithmetic Unit's own state: pools and thresholds (R167, R172). -/
structure ScoreUnit where
  pools : Vector Pool 8
  thresholds : Vector Nat 3
deriving DecidableEq, Repr

/-! ## Reports -/

/-- The cause of a BALL_OUT (R195). -/
inductive OutCause where
  | serve | launch | release | search | unexpected | plunge
deriving DecidableEq, Repr

/-- The cause of an EJECT_FAILED (R33). -/
inductive FailCause where
  | noExit | fallBack
deriving DecidableEq, Repr

/-- The cause of an UNJAMMED (R34). -/
inductive UnjamCause where
  | retry | exit
deriving DecidableEq, Repr

/-- The cause of a SEARCH_ENDED (R59). -/
inductive SearchCause where
  | found | stopped
deriving DecidableEq, Repr

/-- The cause of a LOCK_DISPLACED (R98). -/
inductive DisplacedCause where
  | noSpare | makeRoom | exit
deriving DecidableEq, Repr

/-- The origin of a MULTIBALL_STARTED (R95, R99). -/
inductive MultiballOrigin where
  | lock | addBall
deriving DecidableEq, Repr

/-- The route of a BALL_LAUNCHED (R69). -/
inductive Route where
  | plunge | launch | serveLost
deriving DecidableEq, Repr

/-- The reason of a GAME_ENDED (R73, R75). -/
inductive GameEnd where
  | normal | slam | aborted
deriving DecidableEq, Repr

/-- The outcome of a mode start (R111, R124). -/
inductive StartOutcome where
  | pushed | ignored | extended | restarted | restored | noGame | tilted | notDefined | groupBusy | stackFull
deriving DecidableEq, Repr

/-- The origin of a mode start (section 6.3). -/
inductive StartOrigin where
  | action | chain | command | restore
deriving DecidableEq, Repr

/-- The reason of a MODE_ENDED (section 6.4). -/
inductive EndReason where
  | completed | expired | stopped | displaced | multiballOver | ballOver
deriving DecidableEq, Repr

/-- The cause for which a frame hands over an award (R153, R156). -/
inductive ChainCause where
  | completion | expiry | lap
deriving DecidableEq, Repr

/-- The state marker of a HIT report (R148). -/
inductive HitState where
  | play | tilted | outOfPlay
deriving DecidableEq, Repr

/-- An item of the walk (R151 step 4); a `mode` of `none` is BASE. -/
structure WalkItem where
  mode : Option ModeId
  address : Nat
  points : Nat
  mult : Nat
  clamped : Bool
deriving DecidableEq, Repr

/-- An item of the completion chain (R154 step 4). -/
structure ChainItem where
  mode : ModeId
  address : Nat
  cause : ChainCause
  points : Nat
  mult : Nat
  clamped : Bool
  passedOver : Bool
deriving DecidableEq, Repr

/-- The payload of a HIT report (R157). -/
structure HitReport where
  source : Nat
  stamp : Stamp
  player : Nat
  state : HitState
  chainCut : Bool
  walk : List WalkItem
  chain : List ChainItem
  total : Nat
  score : Nat
deriving DecidableEq, Repr

/-- The reports of the part with their fields (section 11.2). A player is 1 to 4, and 0 where there is none; a DEVICE report
has one constructor per sub-kind. -/
inductive Report where
  | ready
  | switchChange (source : Nat) (closed stuck : Bool)
  | startPressed
  | hit (r : HitReport)
  | ballIn (d : DeviceId) (tag : Tag) (census : Nat)
  | ballOut (d : DeviceId) (tag : Tag) (cause : OutCause) (census : Nat)
  | ejectFailed (d : DeviceId) (purpose : Purpose) (attempts : Nat) (cause : FailCause)
  | jammed (d : DeviceId) (purpose : Purpose)
  | unjammed (d : DeviceId) (cause : UnjamCause)
  | requestDropped (d : DeviceId) (purpose : Purpose) (count : Nat)
  | ballFound (d : DeviceId) (missing : Nat)
  | ballLost (declared missing : Nat)
  | phantom (d : DeviceId) (settled census : Nat)
  | searchStarted (free devices : Nat)
  | searchEnded (cause : SearchCause) (round : Nat)
  | lockLit (player : Nat) (d : DeviceId) (lit made goal : Nat) (clamped : Bool)
  | lockMade (player : Nat) (d : DeviceId) (lit made goal : Nat)
  | lockDisplaced (d : DeviceId) (owner : Nat) (cause : DisplacedCause) (made physical : Nat)
  | multiballStarted (origin : MultiballOrigin) (player : Nat) (d : Option DeviceId) (released requested served : Nat)
  | multiballOver (player : Nat)
  | modeStarted (player : Nat) (m : ModeId) (serial : Nat) (outcome : StartOutcome) (origin : StartOrigin)
      (position inherited : Nat) (remaining : Option Nat) (counter : Nat)
  | modeProgress (player : Nat) (m : ModeId) (serial counter laps : Nat)
  | modeLap (player : Nat) (m : ModeId) (serial counter laps : Nat) (clamped : Bool)
  | modeEnded (player : Nat) (m : ModeId) (serial : Nat) (reason : EndReason) (counter laps : Nat)
      (remaining : Option Nat) (left : Nat)
  | modeRefused (player : Nat) (m : ModeId) (outcome : StartOutcome) (origin : StartOrigin) (holder : Option ModeId)
  | saveStarted (player left : Nat)
  | ballSaved (player left : Nat)
  | saveEnded (player : Nat)
  | gameStarted (players : Nat)
  | playerAdded (player players : Nat)
  | ballStarted (player ball players extraBalls : Nat) (again : Bool)
  | ballLaunched (player ball : Nat) (route : Route)
  | tiltWarning (player warnings limit : Nat)
  | tilted (player warnings : Nat)
  | ballEnded (player ball bonus score : Nat) (tilted : Bool)
  | gameEnded (reason : GameEnd) (players : Nat) (scores : List Nat)
  | thresholdReached (player : Nat) (crossed : List Nat) (score : Nat)
  | scoreLimit (player score : Nat)
deriving DecidableEq, Repr

/-! ## Link Unit -/

/-- The device state (R186). -/
inductive DeviceState where
  | setup | running
deriving DecidableEq, Repr

/-- The receiver (R179): HUNTING, or IN_FRAME with the bytes taken after the sync byte and the time of the last byte. -/
inductive Receiver where
  | hunting
  | inFrame (taken : List Byte) (lastAt : Nat)
deriving DecidableEq, Repr

/-- A good frame in the command buffer (R181). -/
structure Command where
  kind : Byte
  tag : Byte
  payload : List Byte
deriving DecidableEq, Repr

/-- The refusals of R184, but RUN_CHECK. -/
inductive Refuse where
  | unknownKind | badLength | badValue | wrongState | busy | modeInUse | notAllowed | noGame | noBall
deriving DecidableEq, Repr

/-- What a reply says (R184): DONE with a result, REFUSED with a code, or REFUSED by a RUN check with its item (R188). -/
inductive Answer where
  | done (result : List Byte)
  | refused (code : Refuse)
  | runCheck (check item : Nat)
deriving DecidableEq, Repr

/-- A reply in the reply queue, with its report mark (R185). -/
structure Reply where
  tag : Byte
  answer : Answer
  mark : Nat
deriving DecidableEq, Repr

/-- A report in the report queue with its header: timestamp and gap count (R196). -/
structure Queued where
  stamp : Stamp
  gap : Nat
  report : Report
deriving DecidableEq, Repr

/-- The Link Unit. `txd` is the frame last put on TXD (empty when none has been since the reset). -/
structure LinkUnit where
  state : DeviceState
  receiver : Receiver
  commands : List Command
  replies : List Reply
  reports : List Queued
  gap : Nat
  notices : BitVec 8
  mask : BitVec 8
  txd : List Byte
deriving DecidableEq, Repr

/-! ## The whole part -/

/-- The state of the PM62. `pending` is the queue of commands that wait, first in, first out; `out` holds the reports of
the step in progress until the Link Unit queues them, and is empty between steps (log 31). -/
structure State where
  pending : List Instr
  resetHeld : Bool
  now : Nat
  settings : Settings
  scan : Scanner
  dev : DeviceUnit
  track : Tracker
  game : Game
  lock : LockUnit
  mode : ModeUnit
  hit : HitUnit
  score : ScoreUnit
  link : LinkUnit
  out : List Report
deriving DecidableEq, Repr

/-- No command of the PM62 ends in a fault: errors are notices and refusals on the link, which are state. Nothing raises a
fault, so the type has no constructor. -/
inductive Fault where
deriving DecidableEq, Repr

/-- Why a step has no meaning in the model. -/
inductive Refusal where
  /-- Raised by exec's arm of a command that has no meaning yet; safe (the run stops). No arm raises it. -/
  | notModelled (mnemonic : String)
deriving DecidableEq, Repr

/-! ## Cold reset (R191, with the values each chapter gives) -/

/-- A source table entry after a cold reset (section 1.3). -/
def Source.cold : Source := ⟨.inactive, false, 1, 0, false, 0⟩

/-- A switch after a cold reset (R4, R11): its filtered state comes with the first sample (log 5). -/
def Switch.cold : Switch := ⟨false, 0, false, false, none⟩

/-- A device record after a cold reset (R17). -/
def DeviceRecord.cold : DeviceRecord := ⟨.unused, 0, [], 30, 1000, 250, 0, false, 0, false, false, false⟩

/-- A device after a cold reset (R44). -/
def Device.cold : Device := ⟨.cold, [], 0, none, [], [], .off, 0, false⟩

/-- A cleared player record (R65). -/
def Player.cold : Player := ⟨0, 0, 1, 1, 0, 0, Vector.replicate 3 false, false⟩

/-- An undefined descriptor with the values of R106. -/
def Descriptor.cold : Descriptor := ⟨false, 1, 0, 0, 1, 1, 0, 0, .ignore, .none, 0, 1, false, false, none, none, none⟩

/-- The Switch Scanner after a cold reset (R3, R4, R5, R11). -/
def Scanner.cold : Scanner where
  sampled := false
  raw := 0
  switches := Vector.replicate 72 .cold
  sources := Vector.replicate 96 .cold
  classes := #v[⟨2, 2⟩, ⟨8, 8⟩, ⟨32, 32⟩, ⟨1, 20⟩]
  power := .unread
  highRun := 0
  lowRun := 0

/-- The Ball Device Controller after a cold reset (R44). -/
def DeviceUnit.cold : DeviceUnit := ⟨Vector.replicate 8 .cold, none, none, .none, false⟩

/-- The settings after a cold reset (R187). -/
def Settings.cold : Settings := ⟨1, 3, 0, 3, 10, 0, 128⟩

/-- The Game Controller after a cold reset (R64, R65). -/
def Game.cold : Game := ⟨.noGame, 0, none, 0, false, none, false, .off, 0, Vector.replicate 4 .cold⟩

/-- The lock records cleared (R86). -/
def LockUnit.cold : LockUnit := ⟨Vector.replicate 4 (Vector.replicate 6 ⟨0, 0⟩)⟩

/-- The Mode Stack Unit after a cold reset (R129). -/
def ModeUnit.cold : ModeUnit := ⟨Vector.replicate 32 .cold, [], Vector.replicate 4 [], 0⟩

/-- The Hit Resolver after a cold reset (R12, R143, R158). -/
def HitUnit.cold : HitUnit := ⟨[], [], Vector.replicate 4 (Vector.replicate 16 0)⟩

/-- The Score Arithmetic Unit after a cold reset (R168, R172). -/
def ScoreUnit.cold : ScoreUnit := ⟨Vector.replicate 8 ⟨0, 0, .shared 0⟩, Vector.replicate 3 0⟩

/-- The Link Unit after a cold reset: SETUP, HUNTING, empty queues but for the READY report, every flag clear and every
notice enabled (R191). -/
def LinkUnit.cold : LinkUnit := ⟨.setup, .hunting, [], [], [⟨0, 0, .ready⟩], 0, 0x00, 0xFF, []⟩

/-- The PM62 right after a cold reset (R191). -/
def State.reset : State where
  pending := []
  resetHeld := false
  now := 0
  settings := .cold
  scan := .cold
  dev := .cold
  track := ⟨0, 0, 0, .idle⟩
  game := .cold
  lock := .cold
  mode := .cold
  hit := .cold
  score := .cold
  link := .cold
  out := []

end Sys2Proof.Machine
end

