-- ==== Sys2Proof/Machine/Ops.lean ====
section
/-! DEFINITION. The named operations on the state that every block uses: one way to change each block, the queueing of a
report, the reading and changing of a device, a player record, a lock record and an award, and the fixed times of the
manual. -/

namespace Sys2Proof.Machine

/-! ## Fixed times, in milliseconds -/

/-- The pause after a failed attempt (section 2.5, R33). -/
def recoveryMs : Nat := 200
/-- The pause between successive ejects of one request (R32). -/
def spacingMs : Nat := 500
/-- A settled increase within this time of the observed exit is a fall-back (R30). -/
def fallBackMs : Nat := 500
/-- How long the shooter stays at 0 for a confirmed launch (R39). -/
def launchConfirmMs : Nat := 750
/-- The auto-launch delay (R42). -/
def autoLaunchMs : Nat := 500
/-- The step timer of ball search (section 3.4). -/
def searchStepMs : Nat := 400
/-- The tilt settle time (R63). -/
def tiltSettleMs : Nat := 1000
/-- The longest pause between the bytes of a frame (R180). -/
def byteGapMs : Nat := 20
/-- The samples of COIL_PWR that make a reading (R35). -/
def powerSamples : Nat := 10
/-- The rounds of a ball search (R58). -/
def searchRounds : Nat := 5

/-! ## Blocks -/

def State.modScan (f : Scanner → Scanner) (s : State) : State := { s with scan := f s.scan }
def State.modDev (f : DeviceUnit → DeviceUnit) (s : State) : State := { s with dev := f s.dev }
def State.modTrack (f : Tracker → Tracker) (s : State) : State := { s with track := f s.track }
def State.modGame (f : Game → Game) (s : State) : State := { s with game := f s.game }
def State.modLock (f : LockUnit → LockUnit) (s : State) : State := { s with lock := f s.lock }
def State.modMode (f : ModeUnit → ModeUnit) (s : State) : State := { s with mode := f s.mode }
def State.modHit (f : HitUnit → HitUnit) (s : State) : State := { s with hit := f s.hit }
def State.modScore (f : ScoreUnit → ScoreUnit) (s : State) : State := { s with score := f s.score }
def State.modLink (f : LinkUnit → LinkUnit) (s : State) : State := { s with link := f s.link }

/-- A report joins the reports of the step in progress; the Link Unit queues them when the event has been taken whole
(R196, log 31). -/
def State.report (r : Report) (s : State) : State := { s with out := s.out ++ [r] }

/-- `f` taken `n` times, one after another. -/
def times : Nat → (State → State) → State → State
  | 0, _, s => s
  | n + 1, f, s => times n f (f s)

/-- `f` taken for each member of a list, from the front. -/
def forEach {α : Type} : List α → (α → State → State) → State → State
  | [], _, s => s
  | a :: as, f, s => forEach as f (f a s)

/-- The 16-bit millisecond clock: the low 16 bits of the internal count (R56). -/
def State.clock (s : State) : Stamp := BitVec.ofNat 16 s.now

/-- The part is RUNNING (R186). -/
def State.running (s : State) : Bool := s.link.state == .running

/-- A game is in progress while the game state is not NO_GAME (R64). -/
def State.gameInProgress (s : State) : Bool := s.game.state != .noGame

/-- The game state is IN_PLAY or READY, in which hits are queued and resolved (R8, R15, R96, R148). -/
def State.playable (s : State) : Bool := s.game.state == .inPlay || s.game.state == .ready

/-! ## Devices -/

/-- The devices that may be of kind HOLD (R17). -/
def holdDevices : List DeviceId := [2, 3, 4, 5, 6, 7]

def State.device (s : State) (d : DeviceId) : Device := s.dev.devices[d]

def State.modDevice (d : DeviceId) (f : Device → Device) (s : State) : State :=
  s.modDev fun u => { u with devices := upd u.devices d f }

/-- The census count of a device is the length of its held-ball list (R21, R46). -/
def Device.census (v : Device) : Nat := v.held.length

/-- The test of R55: a device stops being SUSPECT when its settled count equals its census count. -/
def Device.testSuspect (v : Device) : Device :=
  { v with suspect := v.suspect && v.settled != v.census }

/-- The held-ball list changes, and the device is tested for SUSPECT (R55). -/
def Device.withHeld (l : List Held) (v : Device) : Device := ({ v with held := l }).testSuspect

/-- The settled count changes, and the device is tested for SUSPECT (R55). -/
def Device.withSettled (n : Nat) (v : Device) : Device := ({ v with settled := n }).testSuspect

/-- The entries of a device with a given tag. -/
def Device.tagged (t : Tag) (v : Device) : Nat := v.held.countP (·.tag = t)

/-- The coil is energised (R28). -/
def Device.pulsing (v : Device) : Bool :=
  match v.eject with
  | .pulsing _ _ => true
  | _ => false

/-- An attempt, a SEARCH pulse or a late exit is in progress: the machine is PULSING or CONFIRMING. -/
def Device.attempting (v : Device) : Bool :=
  match v.eject with
  | .pulsing _ _ | .confirming _ _ => true
  | _ => false

/-- The eject output of a device: driven while it is PULSING, and released while RESET_N is low (R28, R191). -/
def State.ejectOutput (s : State) (d : DeviceId) : Bool := (s.device d).pulsing && !s.resetHeld

/-! ## Players and locks -/

/-- A player's number in a report or reply: 1 to 4, and 0 for an absent player (R195). -/
def playerNo : Option PlayerId → Nat
  | none => 0
  | some p => p.val + 1

/-- The current player's number. -/
def State.playerNo (s : State) : Nat := Machine.playerNo s.game.current

def State.record (s : State) (p : PlayerId) : Player := s.game.records[p]

def State.modRecord (p : PlayerId) (f : Player → Player) (s : State) : State :=
  s.modGame fun g => { g with records := upd g.records p f }

/-- A change of the current player's record; nothing where there is no current player. -/
def State.modCurrent (f : Player → Player) (s : State) : State :=
  match s.game.current with
  | none => s
  | some p => s.modRecord p f

/-- The place of a device's lock record: one for each of the devices 2 to 7 (R86). -/
def lockIndex (d : DeviceId) : Option (Fin 6) :=
  if h : 2 ≤ d.val then some ⟨d.val - 2, by omega⟩ else none

/-- Player `p`'s lock record at device `d`; devices 0 and 1 have none. -/
def State.lockAt (s : State) (p : PlayerId) (d : DeviceId) : Lock :=
  match lockIndex d with
  | none => ⟨0, 0⟩
  | some i => s.lock.records[p][i]

def State.modLockAt (p : PlayerId) (d : DeviceId) (f : Lock → Lock) (s : State) : State :=
  match lockIndex d with
  | none => s
  | some i => s.modLock fun u => { u with records := upd u.records p fun t => upd t i f }

/-- The physical locks of player `p` at device `d` (R86). -/
def State.physical (s : State) (p : PlayerId) (d : DeviceId) : Nat := (s.device d).tagged (.locked p)

/-! ## The award table: a list by rising address of the entries that are not EMPTY -/

/-- What an unlisted address reads as: EMPTY, the content after a cold reset (R143). -/
def awardDefault : Award := .empty

/-- The entry at an address of the award table. -/
def awardAt : List (Nat × Award) → Nat → Award
  | [], _ => awardDefault
  | (b, e) :: t, a => if a = b then e else awardAt t a

/-- The award table with one entry written; an EMPTY entry is not listed. -/
def awardSet : List (Nat × Award) → Nat → Award → List (Nat × Award)
  | [], a, e => if e = awardDefault then [] else [(a, e)]
  | (b, x) :: t, a, e =>
    if a < b then (if e = awardDefault then (b, x) :: t else (a, e) :: (b, x) :: t)
    else if a = b then (if e = awardDefault then t else (a, e) :: t)
    else (b, x) :: awardSet t a e

/-- Consecutive entries are written from an address upward (R144). -/
def awardWrite : List (Nat × Award) → Nat → List Award → List (Nat × Award)
  | t, _, [] => t
  | t, a, e :: es => awardWrite (awardSet t a e) (a + 1) es

/-- The canonical form: addresses strictly rising, and no listed entry reads as an unlisted address does. -/
def awardsWf : List (Nat × Award) → Bool
  | [] => true
  | [(_, e)] => e != awardDefault
  | (a, e) :: (b, x) :: t => e != awardDefault && a < b && awardsWf ((b, x) :: t)

end Sys2Proof.Machine
end

