-- ==== Sys2Proof/Machine/Modes.lean ====
section
/-! DEFINITION. The Mode Stack Unit: starts and their outcomes, pushes and restores, ends and aborts, the carried lists
(chapter 6), and the timers and progress counters of the frames (chapter 7). -/

namespace Sys2Proof.Machine

/-! ## Reading the stack -/

/-- The most frames on the stack (R110). -/
def stackLimit : Nat := 8
/-- The longest remaining time, in milliseconds (R109). -/
def timeLimit : Nat := 600000
/-- The largest inherited factor (R115). -/
def inheritLimit : Nat := 99
/-- The largest serial number (R110). -/
def serialLimit : Nat := 65535
/-- The largest FREE counter (R138). -/
def counterLimit : Nat := 9999
/-- The largest count of laps (R138). -/
def lapLimit : Nat := 255

def State.descriptor (s : State) (m : ModeId) : Descriptor := s.mode.descriptors[m]

/-- The frame of a mode on a stack. -/
def frameOf (m : ModeId) (stack : List Frame) : Option Frame := stack.find? (·.mode = m)

def State.frame (s : State) (m : ModeId) : Option Frame := frameOf m s.mode.stack

/-- The timers of the frames run (R130). -/
def State.timersRun (s : State) : Bool := s.game.state == .inPlay && 1 ≤ s.track.free && !s.game.tilted

/-- The frame of a mode is changed. -/
def modFrame (m : ModeId) (f : Frame → Frame) (s : State) : State :=
  s.modMode fun u => { u with stack := u.stack.map fun x => if x.mode = m then f x else x }

/-- A mode has a frame on the stack or on a carried list (R108). -/
def State.modeInUse (s : State) (m : ModeId) : Bool :=
  s.mode.stack.any (·.mode = m) || s.mode.carried.toList.any (·.any (·.mode = m))

/-- The time of a fresh frame (R109). -/
def Descriptor.time (d : Descriptor) : Option Nat := if d.duration = 0 then none else some (d.duration * 100)

/-- The counter of a fresh frame (R109). -/
def Descriptor.start (d : Descriptor) : Nat :=
  match d.counter with
  | .count => d.goal
  | .free | .none => 0

/-! ## Pushing -/

/-- The frames at or above a priority's insertion point: those of greater priority (R110). -/
def framesAbove (ds : Vector Descriptor 32) (priority : Nat) (stack : List Frame) : List Frame :=
  stack.takeWhile fun f => priority < ds[f.mode].priority

/-- The frames below a priority's insertion point, nearest first (R110). -/
def framesBelow (ds : Vector Descriptor 32) (priority : Nat) (stack : List Frame) : List Frame :=
  stack.dropWhile fun f => priority < ds[f.mode].priority

/-- The inherited factor a frame takes when it is pushed or restored: a product of own factors, clamped (R115). -/
def inheritedFactor (ds : Vector Descriptor 32) (depth : Nat) (below : List Frame) : Nat :=
  min inheritLimit (((below.take depth).map fun f => ds[f.mode].own).prod)

/-- A frame is inserted at its place with the next serial number and a fresh inherited factor, and reported with
MODE_STARTED (R110, R115, R116, R124). -/
def pushFrame (outcome : StartOutcome) (origin : StartOrigin) (c : Carried) (s : State) : State :=
  let d := s.descriptor c.mode
  let above := framesAbove s.mode.descriptors d.priority s.mode.stack
  let below := framesBelow s.mode.descriptors d.priority s.mode.stack
  let serial := min serialLimit (s.mode.serial + 1)
  let f : Frame :=
    { mode := c.mode, serial := serial, inherited := inheritedFactor s.mode.descriptors d.depth below,
      remaining := c.remaining, expiring := false, counter := c.counter, since := c.since, laps := c.laps }
  (s.modMode fun u => { u with stack := above ++ f :: below, serial := serial }).report
    (.modeStarted s.playerNo c.mode serial outcome origin (above.length + 1) f.inherited f.remaining f.counter)

/-- What a fresh frame of a mode starts from (R109). -/
def freshFrame (m : ModeId) (d : Descriptor) : Carried := ⟨m, d.time, d.start, 0, 0⟩

/-! ## Ending -/

/-- An end of a frame, but for the award that a completion or an expiry hands over (R118). -/
def endFrame (reason : EndReason) (f : Frame) (s : State) : State :=
  let s := s.modMode fun u => { u with stack := u.stack.filter (·.mode ≠ f.mode) }
  s.report (.modeEnded s.playerNo f.mode f.serial reason f.counter f.laps f.remaining s.mode.stack.length)

/-- The frames whose mode meets a test end one after another, from the top of the stack downward (R121). -/
def endFrames (reason : EndReason) (test : Descriptor → Bool) (s : State) : State :=
  forEach (s.mode.stack.filter fun f => test (s.descriptor f.mode)) (endFrame reason) s

/-- Every frame on the stack is aborted (R122). -/
def abortStack (s : State) : State := s.modMode fun u => { u with stack := [] }

/-- Every frame on the carried list of a player is aborted (R122). -/
def abortCarried (p : PlayerId) (s : State) : State :=
  s.modMode fun u => { u with carried := upd u.carried p fun _ => [] }

/-- Every frame on the carried lists of all players is aborted (R122). -/
def abortAllCarried (s : State) : State := s.modMode fun u => { u with carried := Vector.replicate 4 [] }

/-- What a suspended frame keeps (R123). -/
def Frame.carry (f : Frame) : Carried := ⟨f.mode, f.remaining, f.counter, f.since, f.laps⟩

/-- The frames left on the stack move to the back of the current player's carried list (R123). -/
def suspendFrames (s : State) : State :=
  match s.game.current with
  | none => abortStack s
  | some p => s.modMode fun u => { u with stack := [], carried := upd u.carried p (· ++ u.stack.map Frame.carry) }

/-- The current player's carried frames are pushed back, from the back of the list to the front (R124). -/
def restoreFrames (s : State) : State :=
  match s.game.current with
  | none => s
  | some p => forEach (s.mode.carried[p]).reverse (pushFrame .restored .restore) (abortCarried p s)

/-! ## Starting -/

/-- A refused start: MODE_REFUSED is queued and nothing changes (R111, R116). -/
def refuseStart (m : ModeId) (outcome : StartOutcome) (origin : StartOrigin) (holder : Option ModeId) (s : State) :
    State × StartOutcome :=
  (s.report (.modeRefused s.playerNo m outcome origin holder), outcome)

/-- The remaining time after an EXTEND (R112). -/
def extendedTime (d : Descriptor) (remaining : Option Nat) : Option Nat :=
  remaining.map fun t => min timeLimit (t + d.duration * 100)

/-- The MODE_STARTED report of a start that acted on the frame of a running mode (R112, R116). -/
def reportStart (m : ModeId) (outcome : StartOutcome) (origin : StartOrigin) (s : State) : State :=
  match s.frame m with
  | none => s
  | some f =>
    s.report (.modeStarted s.playerNo m f.serial outcome origin (s.mode.stack.findIdx (·.mode = m) + 1) f.inherited
      f.remaining f.counter)

/-- A start of a mode that has a frame on the stack takes the mode's restart policy (R112). A decrease that the frame still
owes is taken from its new remaining time (R130, log 20). -/
def startRunning (m : ModeId) (origin : StartOrigin) (s : State) : State × StartOutcome :=
  let d := s.descriptor m
  match d.policy with
  | .ignore => (s, .ignored)
  | .extend =>
    (reportStart m .extended origin
      (modFrame m (fun f => { f with remaining := extendedTime d f.remaining }) s), .extended)
  | .restart =>
    (reportStart m .restarted origin
      (modFrame m (fun f =>
        { f with
          remaining := d.time
          expiring := f.expiring && d.time.isSome
          counter := d.start
          since := 0
          laps := 0 }) s), .restarted)

/-- The frame that holds a mode's exclusive group (R113). -/
def State.groupHolder (s : State) (m : ModeId) : Option Frame :=
  if (s.descriptor m).group = 0 then none
  else s.mode.stack.find? fun f => f.mode ≠ m && (s.descriptor f.mode).group == (s.descriptor m).group

/-- A push of a fresh frame of a mode (R115). -/
def pushFresh (m : ModeId) (origin : StartOrigin) (s : State) : State × StartOutcome :=
  (pushFrame .pushed origin (freshFrame m (s.descriptor m)) s, .pushed)

/-- A start at a full stack: the lowest frame is displaced, or the start is refused (R114). -/
def startFull (m : ModeId) (origin : StartOrigin) (s : State) : State × StartOutcome :=
  match s.mode.stack.getLast? with
  | none => pushFresh m origin s
  | some low =>
    if (s.descriptor low.mode).priority < (s.descriptor m).priority then
      pushFresh m origin (endFrame .displaced low s)
    else refuseStart m .stackFull origin none s

/-- A start of a mode with origin ACTION, CHAIN or COMMAND, judged by the cases in their order (R111). -/
def startMode (m : ModeId) (origin : StartOrigin) (s : State) : State × StartOutcome :=
  if s.game.state = .noGame ∨ s.game.state = .ballOver then refuseStart m .noGame origin none s
  else if s.game.tilted then refuseStart m .tilted origin none s
  else if !(s.descriptor m).defined then refuseStart m .notDefined origin none s
  else if (s.frame m).isSome then startRunning m origin s
  else
    match s.groupHolder m with
    | some h => refuseStart m .groupBusy origin (some h.mode) s
    | none => if stackLimit ≤ s.mode.stack.length then startFull m origin s else pushFresh m origin s

/-! ## Stopping -/

/-- A frame of a mode on the stack ends with reason STOPPED; nothing where there is none (R120). -/
def stopFrame (m : ModeId) (s : State) : State :=
  match s.frame m with
  | none => s
  | some f => endFrame .stopped f s

/-- A carried frame of a mode is removed from a player's list and reported (R120). -/
def stopCarried (m : ModeId) (p : PlayerId) (c : Carried) (s : State) : State :=
  (s.modMode fun u => { u with carried := upd u.carried p (·.filter (·.mode ≠ m)) }).report
    (.modeEnded (p.val + 1) m 0 .stopped c.counter c.laps c.remaining s.mode.stack.length)

/-! ## Advances and expiry -/

/-- An award that a frame hands over to the Hit Resolver (R118, R139). -/
structure Handed where
  address : Nat
  cause : ChainCause
  mode : ModeId
  own : Nat
  inherited : Nat
deriving DecidableEq, Repr

/-- The award of a frame, where its descriptor names one (R139). -/
def handOver (cause : ChainCause) (d : Descriptor) (f : Frame) (address : Option Nat) : List Handed :=
  match address with
  | none => []
  | some a => [⟨a, cause, f.mode, d.own, f.inherited⟩]

/-- What an advance did at its frame (R135). -/
inductive Advanced where
  | notRunning
  | completed
  | advanced (counter laps : Nat)
deriving DecidableEq, Repr

/-- Step 3 of an advance: it counts toward progress reporting (R140). Two advances of different counts leave advances since
report that depend on their order where one of them meets the threshold; R142 says otherwise, and R140 is followed (log
45). -/
def countProgress (m : ModeId) (n : Nat) (s : State) : State :=
  match s.frame m with
  | none => s
  | some f =>
    if (s.descriptor m).threshold ≤ f.since + n then
      (modFrame m (fun f => { f with since := 0 }) s).report (.modeProgress s.playerNo m f.serial f.counter f.laps)
    else modFrame m (fun f => { f with since := f.since + n }) s

/-- An advance of n at a frame of kind COUNT (R137). -/
def advanceCount (f : Frame) (n : Nat) (s : State) : State × Advanced × List Handed :=
  let d := s.descriptor f.mode
  if f.counter ≤ n then
    (endFrame .completed { f with counter := 0 } s, .completed, handOver .completion d f d.completion)
  else
    let c := f.counter - n
    (countProgress f.mode n (modFrame f.mode (fun f => { f with counter := c }) s), .advanced c f.laps, [])

/-- An advance of n at a frame of kind FREE (R138). -/
def advanceFree (f : Frame) (n : Nat) (s : State) : State × Advanced × List Handed :=
  let d := s.descriptor f.mode
  let sum := f.counter + n
  if sum ≤ counterLimit then
    (countProgress f.mode n (modFrame f.mode (fun f => { f with counter := sum }) s), .advanced sum f.laps, [])
  else
    let c := sum - (counterLimit + 1)
    let laps := min lapLimit (f.laps + 1)
    let s := (modFrame f.mode (fun f => { f with counter := c, laps := laps }) s).report
      (.modeLap s.playerNo f.mode f.serial c laps (lapLimit ≤ f.laps))
    (countProgress f.mode n s, .advanced c laps, handOver .lap d f d.lap)

/-- An advance of n at the frame of a mode on the stack (R136). -/
def advanceMode (m : ModeId) (n : Nat) (s : State) : State × Advanced × List Handed :=
  match s.frame m with
  | none => (s, .notRunning, [])
  | some f =>
    match (s.descriptor m).counter with
    | .count => advanceCount f n s
    | .free => advanceFree f n s
    | .none => (countProgress m n s, .advanced f.counter f.laps, [])

/-- The expiry of a frame (R132). -/
def expireFrame (f : Frame) (s : State) : State × List Handed :=
  let d := s.descriptor f.mode
  (endFrame .expired { f with remaining := some 0 } s, handOver .expiry d f d.expiry)

/-- The millisecond's decrease of a frame's remaining time; one that would reach 0 is owed until MODE_EXPIRY takes it
(R130, R132, log 20). -/
def Frame.tick (f : Frame) : Frame :=
  match f.remaining with
  | none => f
  | some t => if t ≤ 1 then { f with expiring := true } else { f with remaining := some (t - 1) }

/-- A frame takes the millisecond's decrease that it owed without coming to 0: its time has been set anew since the
millisecond (R130, log 20). -/
def Frame.decrease (f : Frame) : Frame := { f with remaining := f.remaining.map (· - 1), expiring := false }

/-- The frame's remaining time comes to 0 with the decrease that it owes (R132); an untimed frame comes to no end. -/
def Frame.ends (f : Frame) : Bool := f.remaining.any (· ≤ 1)

/-- The decreases owed are not taken where the timers do not run: the frame keeps its last millisecond (R142). -/
def settleExpiries (s : State) : State :=
  if s.timersRun then s
  else s.modMode fun u => { u with stack := u.stack.map fun f => { f with expiring := false } }

end Sys2Proof.Machine
end

