-- ==== Sys2Proof/Machine/Flags.lean ====
section
/-! DEFINITION. The notice flags, their mask, the conditions of the condition notices, and ATTN_N (section 11.3). -/

namespace Sys2Proof.Machine

/-- The eight notices (section 11.3). -/
inductive Notice where
  | lineError | reportOverrun | switchOverrun | phantomEntry | deviceJammed | coilPowerLost | ballMissing | switchStuck
deriving DecidableEq, Repr

/-- The bit position of a notice in the flags, the mask and the conditions. -/
def Notice.bit : Notice → Nat
  | .lineError => 0
  | .reportOverrun => 1
  | .switchOverrun => 2
  | .phantomEntry => 3
  | .deviceJammed => 4
  | .coilPowerLost => 5
  | .ballMissing => 6
  | .switchStuck => 7

/-- The byte with a notice's bit alone. -/
def Notice.mask (n : Notice) : BitVec 8 := 1#8 <<< n.bit

/-- The bits of the four event notices. -/
def eventNotices : BitVec 8 := 0x0F

/-- A notice's flag is set by its cause, whatever the mask holds (R199). -/
def State.notice (n : Notice) (s : State) : State :=
  s.modLink fun l => { l with notices := l.notices ||| n.mask }

/-- One or more devices are JAMMED (R33). -/
def State.anyJammed (s : State) : Bool := s.dev.devices.toList.any (·.eject == .jammed)

/-- One or more sources are STUCK (R11). -/
def State.anyStuck (s : State) : Bool := s.scan.switches.toList.any (·.stuck)

/-- A condition as its notice's bit. -/
def conditionBit (n : Notice) (holds : Bool) : BitVec 8 := if holds then n.mask else 0

/-- The conditions byte of READ_NOTICES: a condition notice's bit is 1 while its condition holds, and the bits of the event
notices are 0 (R202). -/
def State.conditions (s : State) : BitVec 8 :=
  conditionBit .deviceJammed s.anyJammed ||| conditionBit .coilPowerLost (s.scan.power == .absent) |||
    conditionBit .ballMissing (s.running && 1 ≤ s.track.missing) ||| conditionBit .switchStuck s.anyStuck

/-- The flags after CLEAR_NOTICES: a named event notice is cleared, a named condition notice when its condition does not
hold (R200). -/
def clearedNotices (flags conditions named : BitVec 8) : BitVec 8 := flags &&& ~~~(named &&& ~~~conditions)

/-- The flags after a RESTART: the event notices are cleared, and a condition notice whose condition holds is set (R199). -/
def reevaluatedNotices (flags conditions : BitVec 8) : BitVec 8 := (flags &&& ~~~eventNotices) ||| conditions

/-- ATTN_N is driven low while a flag is set whose notice is enabled; it is released while RESET_N is low (R201). -/
def State.attnLow (s : State) : Bool := !s.resetHeld && (s.link.notices &&& s.link.mask) != 0

end Sys2Proof.Machine
end

