-- ==== Sys2Proof/Machine/Eject.lean ====
section
/-! DEFINITION. Eject requests (R25, R26), the readiness test (R27) and the coil grant arbiter (R28). -/

namespace Sys2Proof.Machine

/-- The trough interlock is open while the shooter lane's census count is 0 and no launch confirmation is open (R27). -/
def State.interlockOpen (s : State) : Bool := (s.device 1).census == 0 && s.dev.launchAt.isNone

/-- A head whose class is absent, so that it is removed without a pulse: a RELEASE with no RELEASING entry, a LAUNCH with no
ball in the lane (R26, log 9). -/
def State.headAbsent (s : State) (d : DeviceId) (r : Request) : Bool :=
  match r.purpose with
  | .release => (s.device d).tagged .releasing == 0
  | .launch => (s.device d).census == 0
  | .serve | .search => false

/-- A head that is ready for a pulse (R26); no head of the trough is while a reconciliation waits (R37). -/
def State.headReady (s : State) (d : DeviceId) (r : Request) : Bool :=
  match r.purpose with
  | .serve => 1 ≤ (s.device d).tagged .spare && s.interlockOpen && !s.dev.reconciling
  | .launch => (s.device d).census == 1 && s.dev.launchAt.isNone
  | .release => 1 ≤ (s.device d).tagged .releasing
  | .search => true

/-- The head request of a device is ready. -/
def State.ready (s : State) (d : DeviceId) : Bool :=
  match (s.device d).queue with
  | [] => false
  | r :: _ => s.headReady d r

/-- The readiness test (R27): heads whose class is absent are removed with all their count (R26), and the device enters
WAIT_COIL or WAIT_POWER when the head is ready, IDLE when it is not. -/
def readiness (d : DeviceId) (s : State) : State :=
  let q := (s.device d).queue
  let q' := q.dropWhile (s.headAbsent d)
  let ready := match q' with
    | [] => false
    | r :: _ => s.headReady d r
  let e := if ready then (if s.scan.power = .present then Eject.waitCoil s.now else .waitPower) else .idle
  s.modDevice d fun v =>
    { v with queue := q', attempts := if q'.length < q.length then 0 else v.attempts, eject := e }

/-- The devices that are PULSING. -/
def State.pulsingCount (s : State) : Nat := s.dev.devices.toList.countP (·.pulsing)

/-- The device that has waited longest in WAIT_COIL, the lower number first among equals (R28). -/
def State.longestWaiting (s : State) : Option (DeviceId × Nat) :=
  (List.finRange 8).foldl
    (fun best d =>
      match (s.device d).eject, best with
      | .waitCoil t, none => some (d, t)
      | .waitCoil t, some (b, u) => if t < u then some (d, t) else some (b, u)
      | _, b => b)
    none

/-- A grant: the device enters PULSING and the observation of its attempt opens (R29). -/
def grant (d : DeviceId) (s : State) : State :=
  s.modDevice d fun v => { v with eject := .pulsing (s.now + v.record.pulse) none }

/-- A free grant goes to the device that has waited longest; at most two coils are energised at once (R28). -/
def grantOne (s : State) : State :=
  if s.pulsingCount < 2 then
    match s.longestWaiting with
    | none => s
    | some (d, _) => grant d s
  else s

/-- The arbiter hands out every free grant. -/
def arbitrate (s : State) : State := grantOne (grantOne s)

/-- The readiness test with the grant that follows it at once when one is free (R27, R28, log 8). -/
def testReadiness (d : DeviceId) (s : State) : State := arbitrate (readiness d s)

/-- A device in IDLE makes the readiness test (R27). -/
def poke (d : DeviceId) (s : State) : State :=
  if (s.device d).eject = .idle then testReadiness d s else s

/-- A waiting device whose readiness has lapsed, or whose head has gone, makes the readiness test (R27, R59, R68, R75): in
WAIT_COIL whatever made its head unready, in WAIT_POWER when a RELEASE head has no RELEASING entry left. -/
def retest (headGone : Bool) (d : DeviceId) (s : State) : State :=
  match (s.device d).eject with
  | .waitCoil _ => if headGone || !s.ready d then testReadiness d s else s
  | .waitPower =>
    if headGone || (s.device d).queue.head?.any (s.headAbsent d) then testReadiness d s else s
  | .idle => if headGone then testReadiness d s else s
  | _ => s

/-- The newest entry of a purpose is changed, or removed where `f` answers none; `f` is told whether it is the head. -/
def modNewest (p : Purpose) (f : Bool → Request → Option Request) : Bool → List Request → List Request
  | _, [] => []
  | isHead, r :: rest =>
    if rest.any (·.purpose = p) then r :: modNewest p f false rest
    else if r.purpose = p then
      match f isHead r with
      | none => rest
      | some r' => r' :: rest
    else r :: rest

/-- The queue a request of `n` ejects leaves, by steps 1 and 2 of R25; `none` where it is dropped at a full queue. -/
def mergeRequest (p : Purpose) (n : Nat) (q : List Request) : Option (List Request) :=
  match q.getLast? with
  | some r =>
    if r.purpose = p then some (q.dropLast ++ [{ r with count := min 8 (r.count + n) }])
    else if 8 ≤ q.length then none
    else some (q ++ [⟨p, n⟩])
  | none => some [⟨p, n⟩]

/-- Step 3 of R25: a RELEASE entry is clamped to the RELEASING entries of the device, and a new one clamped to 0 is not
kept. -/
def clampRelease (releasing : Nat) (grown : Bool) (q : List Request) : List Request :=
  match q.getLast? with
  | some r =>
    if r.purpose = .release ∧ releasing < r.count then
      if releasing = 0 ∧ grown then q.dropLast else q.dropLast ++ [{ r with count := releasing }]
    else q
  | none => q

/-- The devices that discard a request: one that is OFF, and for a LAUNCH one without its launch coil flag (R25). -/
def State.discards (s : State) (d : DeviceId) (p : Purpose) : Bool :=
  (s.device d).eject == .off || (p == .launch && !(s.device d).record.launchCoil)

/-- A request would be dropped at a full queue (R25 step 2). -/
def State.wouldDrop (s : State) (d : DeviceId) (p : Purpose) (n : Nat) : Bool :=
  !s.discards d p && (mergeRequest p n (s.device d).queue).isNone

/-- A request of `n` ejects is placed at a device (R25), and a device in IDLE tests its head (R27). -/
def placeRequest (d : DeviceId) (p : Purpose) (n : Nat) (s : State) : State :=
  if s.discards d p then s
  else
    let v := s.device d
    match mergeRequest p n v.queue with
    | none => s.report (.requestDropped d p n)
    | some q =>
      let q' := clampRelease (v.tagged .releasing) (v.queue.length < q.length) q
      poke d (s.modDevice d fun v => { v with queue := q' })

/-- Every request of a purpose is removed from a device's queue, except a head whose attempt, pulse or late exit is in
progress (R59, R75). The head of a pulse that was cut is in progress no more, also while the launch confirmation which that
pulse opened stands open (DESIGN CHOICE, log 50). -/
def removeRequests (d : DeviceId) (p : Purpose) (s : State) : State :=
  let v := s.device d
  match v.queue with
  | [] => s
  | r :: rest =>
    let rest' := rest.filter (·.purpose ≠ p)
    if r.purpose = p ∧ ¬v.attempting then
      retest true d (s.modDevice d fun v => { v with queue := rest', attempts := 0 })
    else s.modDevice d fun v => { v with queue := r :: rest' }

/-- One count of the newest SERVE request at the trough is withdrawn, unless its attempt or its late exit is being observed
(R68, log 17). -/
def withdrawServe (s : State) : State :=
  let v := s.device 0
  let q := modNewest .serve
    (fun isHead r =>
      if isHead ∧ v.attempting then some r
      else if r.count ≤ 1 then none
      else some { r with count := r.count - 1 }) true v.queue
  let headGone := q.length < v.queue.length ∧ ¬(v.queue.tail.any (·.purpose = .serve))
  retest headGone 0 (s.modDevice 0 fun v => { v with queue := q, attempts := if headGone then 0 else v.attempts })

/-- Entries of a device are retagged RELEASING, and a RELEASE of their number is queued there (R66, R73, R75, R79). -/
def releaseTagged (which : Tag → Bool) (d : DeviceId) (s : State) : State :=
  let n := (s.device d).held.countP (which ·.tag)
  if n = 0 then s
  else
    placeRequest d .release n
      (s.modDevice d fun v =>
        v.withHeld (v.held.map fun h => if which h.tag then { h with tag := .releasing, holdAt := none } else h))

end Sys2Proof.Machine
end

