-- ==== Sys2Proof/Machine/Tracker.lean ====
section
/-! DEFINITION. The Ball Tracker: the live count, the unclaimed spares, activity, and ball search (sections 3.2 and 3.4). -/

namespace Sys2Proof.Machine

/-! ## Counts -/

/-- The tags that are live in a HOLD device (R49). -/
def Tag.live : Tag → Bool
  | .parked | .stray | .releasing => true
  | .spare | .locked _ => false

/-- The counts of every SERVE request in the trough's queue (R49, R89). -/
def State.serves (s : State) : Nat :=
  (((s.device 0).queue.filter (·.purpose = .serve)).map (·.count)).sum

/-- The live count (R49). -/
def State.live (s : State) : Nat :=
  s.track.free + (s.device 1).census + (holdDevices.map fun d => (s.device d).held.countP (·.tag.live)).sum + s.serves

/-- The unclaimed spares (R89). -/
def State.unclaimed (s : State) : Nat := (s.device 0).tagged .spare - s.serves

/-- The balls the census places anywhere: all device counts, free and missing (R46). -/
def State.total (s : State) : Nat :=
  ((List.finRange 8).map fun d => (s.device d).census).sum + s.track.free + s.track.missing

/-! ## The end of a search -/

/-- The SEARCH requests of the HOLD devices are withdrawn (R59). -/
def withdrawSearches (s : State) : State := forEach holdDevices (fun d => removeRequests d .search) s

/-- A SEARCHING search ends without giving up (R59). -/
def endSearch (c : SearchCause) (s : State) : State :=
  match s.track.search with
  | .idle => s
  | .searching r _ _ =>
    (withdrawSearches (s.modTrack fun t => { t with search := .idle })).report (.searchEnded c r)

/-- An activity event: it sets the last activity and ends a search with cause FOUND (R56, R59). -/
def activity (s : State) : State := endSearch .found (s.modTrack fun t => { t with lastActivity := s.now })

/-! ## Search -/

/-- A device that a step can search (R58). -/
def State.searchable (s : State) (d : DeviceId) : Bool :=
  let v := s.device d
  v.record.kind == .hold && v.eject != .off && v.census == 0 && (v.record.searchEligible || v.suspect)

/-- A device number stands above the last device searched, or there is none (R58). -/
def aboveLast (last : Option DeviceId) (d : DeviceId) : Bool :=
  match last with
  | none => true
  | some l => l < d

/-- The lowest-numbered searchable device above the last one searched (R58). -/
def State.nextSearchable (s : State) (last : Option DeviceId) : Option DeviceId :=
  holdDevices.find? fun d => aboveLast last d && s.searchable d

/-- A step that found a device queues a SEARCH there; either way the step timer starts (R58). -/
def searchAt (round : Nat) (d : Option DeviceId) (s : State) : State :=
  let s := s.modTrack fun t => { t with search := .searching round d (s.now + searchStepMs) }
  match d with
  | none => s
  | some d => placeRequest d .search 1 s

/-- Search gives up: every free ball is declared missing (R60). -/
def giveUp (s : State) : State :=
  let n := s.track.free
  let s := s.modTrack fun t => { t with free := 0, missing := t.missing + n, search := .idle }
  withdrawSearches ((s.report (.ballLost n s.track.missing)).notice .ballMissing)

/-- One step of ball search (R58). -/
def stepSearch (s : State) : State :=
  match s.track.search with
  | .idle => s
  | .searching round last _ =>
    match s.nextSearchable last with
    | some d => searchAt round (some d) s
    | none => if searchRounds ≤ round then giveUp s else searchAt (round + 1) (s.nextSearchable none) s

/-- The playfield is quiet: the search delay has passed since the last activity (R56). -/
def State.quiet (s : State) : Bool := s.track.lastActivity + 1000 * s.settings.searchDelay ≤ s.now

/-- The conditions under which search starts (R57). -/
def State.searchDue (s : State) : Bool :=
  s.track.search == .idle && s.running && s.game.state == .inPlay && 1 ≤ s.track.free &&
    !(s.dev.devices.toList.any (·.attempting)) && s.quiet

/-- Search starts when its conditions hold, and its first step is taken at once (R57). -/
def testSearch (s : State) : State :=
  if s.searchDue then
    stepSearch ((s.modTrack fun t => { t with search := .searching 1 none s.now }).report
      (.searchStarted s.track.free (holdDevices.countP s.searchable)))
  else s

end Sys2Proof.Machine
end

