-- ==== Sys2Proof/Machine/Encode.lean ====
section
/-! DEFINITION. The bytes of the link: field encodings and codes (R183, R195), the CRC-8, frames (section 10.9), report and
reply payloads (section 11.2, R184), and the results of the READ commands. -/

namespace Sys2Proof.Machine

/-! ## Field encodings (R195) -/

def byte (n : Nat) : Byte := BitVec.ofNat 8 n

/-- A flag or marker. -/
def flagByte (b : Bool) : Byte := if b then 1 else 0

/-- A binary value of two bytes, least significant first. -/
def le16 (n : Nat) : List Byte := [byte n, byte (n / 256)]

/-- A binary value of four bytes, least significant first. -/
def le32 (n : Nat) : List Byte := [byte n, byte (n / 256), byte (n / 65536), byte (n / 16777216)]

/-- A decimal value in `n` bytes of packed BCD, most significant digit first. -/
def bcd : Nat → Nat → List Byte
  | 0, _ => []
  | n + 1, v => bcd n (v / 100) ++ [byte (v / 10 % 10 * 16 + v % 10)]

/-- A score or a total of points. -/
def scoreBytes (v : Nat) : List Byte := bcd 7 v
/-- The points of an item, or bonus points. -/
def pointsBytes (v : Nat) : List Byte := bcd 5 v
/-- An 8-digit value. -/
def valueBytes (v : Nat) : List Byte := bcd 4 v

/-- A timestamp. -/
def stampBytes (t : Stamp) : List Byte := le16 t.toNat

/-- The untimed marker. -/
def untimed : Nat := 0xFFFFFFFF

/-- A remaining time, or the untimed marker. -/
def timeBytes (t : Option Nat) : List Byte := le32 (t.getD untimed)

/-- A device, mode or round that may be absent. -/
def orNone (n : Option Nat) : Byte := byte (n.getD 255)

/-- A list preceded by the number of its entries. -/
def counted {α : Type} (f : α → List Byte) (l : List α) : List Byte := byte l.length :: l.flatMap f

/-! ## Codes (R195) -/

def DeviceKind.code : DeviceKind → Byte
  | .unused => 0 | .trough => 1 | .launch => 2 | .hold => 3

def Tag.code : Tag → Byte
  | .spare => 0 | .locked _ => 1 | .parked => 2 | .stray => 3 | .releasing => 4

/-- The owner that follows a tag: the player of a LOCKED entry, 0 for any other. -/
def Tag.owner : Tag → Byte
  | .locked p => byte (p.val + 1)
  | _ => 0

def Purpose.code : Purpose → Byte
  | .serve => 0 | .launch => 1 | .release => 2 | .search => 3

def OutCause.code : OutCause → Byte
  | .serve => 0 | .launch => 1 | .release => 2 | .search => 3 | .unexpected => 4 | .plunge => 5

def FailCause.code : FailCause → Byte
  | .noExit => 0 | .fallBack => 1

def UnjamCause.code : UnjamCause → Byte
  | .retry => 0 | .exit => 1

def Eject.code : Eject → Byte
  | .off => 0 | .idle => 1 | .waitCoil _ => 2 | .pulsing _ _ => 3 | .confirming _ _ => 4 | .recovering _ => 5
  | .spacing _ => 6 | .waitPower => 7 | .jammed => 8

def SearchCause.code : SearchCause → Byte
  | .found => 0 | .stopped => 1

def DeviceState.code : DeviceState → Byte
  | .setup => 0 | .running => 1

def GameState.code : GameState → Byte
  | .noGame => 0 | .serving => 1 | .ready => 2 | .inPlay => 3 | .ballOver => 4

def Save.code : Save → Byte
  | .off => 0 | .armed => 1 | .counting => 2

def Route.code : Route → Byte
  | .plunge => 0 | .launch => 1 | .serveLost => 2

def GameEnd.code : GameEnd → Byte
  | .normal => 0 | .slam => 1 | .aborted => 2

def DisplacedCause.code : DisplacedCause → Byte
  | .noSpare => 0 | .makeRoom => 1 | .exit => 2

def MultiballOrigin.code : MultiballOrigin → Byte
  | .lock => 0 | .addBall => 1

def StartOutcome.code : StartOutcome → Byte
  | .pushed => 0 | .ignored => 1 | .extended => 2 | .restarted => 3 | .restored => 4 | .noGame => 5 | .tilted => 6
  | .notDefined => 7 | .groupBusy => 8 | .stackFull => 9

def StartOrigin.code : StartOrigin → Byte
  | .action => 0 | .chain => 1 | .command => 2 | .restore => 3

def EndReason.code : EndReason → Byte
  | .completed => 0 | .expired => 1 | .stopped => 2 | .displaced => 3 | .multiballOver => 4 | .ballOver => 5

def HitState.code : HitState → Byte
  | .play => 0 | .tilted => 1 | .outOfPlay => 2

def ChainCause.code : ChainCause → Byte
  | .completion => 0 | .expiry => 1 | .lap => 2

def PoolValue.scopeCode : PoolValue → Byte
  | .shared _ => 0 | .player _ => 1

/-- The refusal codes (R184). -/
def Refuse.code : Refuse → Byte
  | .unknownKind => 1 | .badLength => 2 | .badValue => 3 | .wrongState => 4 | .busy => 5 | .modeInUse => 7
  | .notAllowed => 8 | .noGame => 9 | .noBall => 10

/-! ## Frames -/

/-- One bit of the CRC-8 with the polynomial x^8 + x^2 + x + 1 (R179). -/
def crcBit (c : Byte) : Byte := if c.msb then (c <<< 1) ^^^ 0x07 else c <<< 1

/-- One byte of the CRC-8, the bits most significant first (R179). -/
def crcByte (c b : Byte) : Byte := crcBit (crcBit (crcBit (crcBit (crcBit (crcBit (crcBit (crcBit (c ^^^ b))))))))

/-- The CRC-8 of a run of bytes, initial value 0, no final inversion (R179). -/
def crc8 (l : List Byte) : Byte := l.foldl crcByte 0

/-- The sync value (section 10.2). -/
def syncByte : Byte := 0xA9

/-- The most payload bytes of a frame (section 10.2). -/
def payloadLimit : Nat := 240

/-- A frame as it stands on the line (section 10.9). -/
def encodeFrame (kind tag : Byte) (payload : List Byte) : List Byte :=
  let body := byte payload.length :: kind :: tag :: payload
  syncByte :: body ++ [crc8 body]

/-- The frame the transmitter puts on TXD; a payload that no length byte can give is a free value (log 22). -/
def transmit (kind tag : Byte) (payload : List Byte) : List Byte :=
  if payload.length ≤ payloadLimit then encodeFrame kind tag payload else Config.overlongFrame kind tag payload

/-! ## Reports (section 11.2) -/

/-- The identity record (R192). -/
def identity : List Byte := [0x53, 62, 1, 1]

def WalkItem.bytes (i : WalkItem) : List Byte :=
  byte ((i.mode.map (·.val)).getD 254) :: le16 i.address ++ pointsBytes i.points ++ [byte i.mult, flagByte i.clamped]

def ChainItem.bytes (i : ChainItem) : List Byte :=
  byte i.mode.val :: le16 i.address ++ i.cause.code :: pointsBytes i.points ++
    [byte i.mult, flagByte i.clamped, flagByte i.passedOver]

def HitReport.bytes (r : HitReport) : List Byte :=
  byte r.source :: stampBytes r.stamp ++ [byte r.player, r.state.code, flagByte r.chainCut] ++
    counted WalkItem.bytes r.walk ++ counted ChainItem.bytes r.chain ++ scoreBytes r.total ++ scoreBytes r.score

/-- The kind code of a report and its payload behind the header (section 11.2). -/
def Report.encode : Report → Byte × List Byte
  | .ready => (0xA0, identity)
  | .switchChange x c k => (0xA1, [byte x, flagByte c, flagByte k])
  | .startPressed => (0xA2, [])
  | .hit r => (0xA3, r.bytes)
  | .ballIn d t n => (0xA4, [0, byte d.val, t.code, t.owner, byte n])
  | .ballOut d t c n => (0xA4, [1, byte d.val, t.code, t.owner, c.code, byte n])
  | .ejectFailed d p a c => (0xA4, [2, byte d.val, p.code, byte a, c.code])
  | .jammed d p => (0xA4, [3, byte d.val, p.code])
  | .unjammed d c => (0xA4, [4, byte d.val, c.code])
  | .requestDropped d p n => (0xA4, [5, byte d.val, p.code, byte n])
  | .ballFound d n => (0xA5, [byte d.val, byte n])
  | .ballLost n m => (0xA6, [byte n, byte m])
  | .phantom d x c => (0xA7, [byte d.val, byte x, byte c])
  | .searchStarted f n => (0xA8, [byte f, byte n])
  | .searchEnded c r => (0xA9, [c.code, byte r])
  | .lockLit p d l m g c => (0xAA, [byte p, byte d.val, byte l, byte m, byte g, flagByte c])
  | .lockMade p d l m g => (0xAB, [byte p, byte d.val, byte l, byte m, byte g])
  | .lockDisplaced d o c m n => (0xAC, [byte d.val, byte o, c.code, byte m, byte n])
  | .multiballStarted o p d r q v => (0xAD, [o.code, byte p, orNone (d.map (·.val)), byte r, byte q, byte v])
  | .multiballOver p => (0xAE, [byte p])
  | .modeStarted p m n o g x i t c =>
    (0xAF, byte p :: byte m.val :: le16 n ++ [o.code, g.code, byte x, byte i] ++ timeBytes t ++ le16 c)
  | .modeProgress p m n c l => (0xB0, byte p :: byte m.val :: le16 n ++ le16 c ++ [byte l])
  | .modeLap p m n c l k => (0xB1, byte p :: byte m.val :: le16 n ++ le16 c ++ [byte l, flagByte k])
  | .modeEnded p m n r c l t k =>
    (0xB2, byte p :: byte m.val :: le16 n ++ r.code :: le16 c ++ byte l :: timeBytes t ++ [byte k])
  | .modeRefused p m o g h => (0xB3, [byte p, byte m.val, o.code, g.code, orNone (h.map (·.val))])
  | .saveStarted p t => (0xB4, byte p :: le16 t)
  | .ballSaved p t => (0xB5, byte p :: le16 t)
  | .saveEnded p => (0xB6, [byte p])
  | .gameStarted n => (0xB7, [byte n])
  | .playerAdded p n => (0xB8, [byte p, byte n])
  | .ballStarted p b n x a => (0xB9, [byte p, byte b, byte n, byte x, flagByte a])
  | .ballLaunched p b r => (0xBA, [byte p, byte b, r.code])
  | .tiltWarning p w l => (0xBB, [byte p, byte w, byte l])
  | .tilted p w => (0xBC, [byte p, byte w])
  | .ballEnded p b x c t => (0xBD, byte p :: byte b :: pointsBytes x ++ scoreBytes c ++ [flagByte t])
  | .gameEnded r n l => (0xBE, r.code :: byte n :: l.flatMap scoreBytes)
  | .thresholdReached p l c => (0xBF, byte p :: counted (fun k => [byte k]) l ++ scoreBytes c)
  | .scoreLimit p c => (0xC0, byte p :: scoreBytes c)

/-- The frame of a report: its header, then its fields; the tag is 0 (R196, section 10.9). -/
def Queued.frame (q : Queued) : List Byte :=
  transmit q.report.encode.1 0 (stampBytes q.stamp ++ byte q.gap :: q.report.encode.2)

/-- The frame of a reply (R184). -/
def Reply.frame (r : Reply) : List Byte :=
  match r.answer with
  | .done result => transmit 0x80 r.tag result
  | .refused c => transmit 0x81 r.tag [c.code]
  | .runCheck check item => transmit 0x81 r.tag [11, byte check, byte item]

/-! ## Results of the READ commands -/

/-- The result of IDENTIFY (R192). -/
def State.identityResult (s : State) : List Byte := identity ++ s.link.state.code :: stampBytes s.clock

/-- The thresholds that a player has reached: a set, sent as the list of their numbers in ascending order (log 24). -/
def Player.reachedList (r : Player) : List Nat :=
  ((List.finRange 3).filter fun k => r.reached[k]).map (·.val + 1)

/-- The player's record in the order of R65. -/
def Player.bytes (r : Player) : List Byte :=
  scoreBytes r.score ++ valueBytes r.bonus ++
    [byte r.bonusMult, byte r.fieldMult, byte r.extraBalls, byte r.warnings] ++
    counted (fun k => [byte k]) r.reachedList ++ [flagByte r.limitReported]

/-- The result of READ_PLAYER (R85, R104): lit and made of each device, then the goals (log 24). -/
def State.playerResult (s : State) (p : PlayerId) : List Byte :=
  (s.record p).bytes ++
    [flagByte (p.val < s.game.players), s.game.state.code, byte s.game.players, byte s.playerNo, byte s.game.ball,
      flagByte s.game.tilted, flagByte s.game.multiball, s.game.save.code] ++ le16 s.game.saveLeft ++
    holdDevices.flatMap (fun d => [byte (s.lockAt p d).lit, byte (s.lockAt p d).made]) ++
    holdDevices.map fun d => byte (s.device d).record.goal

/-- A frame of the stack in READ_STACK (R128). -/
def State.frameBytes (s : State) (f : Frame) : List Byte :=
  let d := s.descriptor f.mode
  byte f.mode.val :: le16 f.serial ++ [byte d.priority, byte d.group, byte d.own, byte f.inherited] ++
    timeBytes f.remaining ++ flagByte (f.remaining.isSome && s.timersRun) :: le16 f.counter ++
    [byte f.since, byte f.laps]

/-- A carried frame in READ_STACK (R128). -/
def Carried.bytes (c : Carried) : List Byte :=
  byte c.mode.val :: timeBytes c.remaining ++ le16 c.counter ++ [byte c.since, byte c.laps]

/-- The result of READ_STACK (R128). -/
def State.stackResult (s : State) : List Byte :=
  byte s.playerNo :: le16 s.mode.serial ++ counted s.frameBytes s.mode.stack ++
    s.mode.carried.toList.flatMap (counted Carried.bytes)

def Held.bytes (h : Held) : List Byte := [h.tag.code, h.tag.owner] ++ stampBytes h.arrival

def Request.bytes (r : Request) : List Byte := [r.purpose.code, byte r.count]

/-- A device in READ_BALLS (R62): what is always there, then the census part where a census exists; the census
count gives the number of entries of the held-ball list (R195). -/
def State.deviceBytes (s : State) (d : DeviceId) : List Byte :=
  let v := s.device d
  [v.record.kind.code, v.eject.code, byte v.settled, byte v.attempts, flagByte v.suspect] ++
    if s.running then 1 :: byte v.census :: v.held.flatMap Held.bytes ++ counted Request.bytes v.queue else [0]

/-- The search state in READ_BALLS: the state, the round and the last device searched (R62). -/
def Search.bytes : Search → List Byte
  | .idle => [0, 255, 255]
  | .searching r l _ => [1, byte r, orNone (l.map (·.val))]

/-- The result of READ_BALLS (R62, log 23). -/
def State.ballsResult (s : State) : List Byte :=
  byte s.settings.installed ::
    (if s.running then
      [1, byte s.track.free, byte s.track.missing, byte s.live] ++ s.track.search.bytes
    else [0]) ++
    le16 (min 65535 (s.now - s.track.lastActivity)) ++ (List.finRange 8).flatMap s.deviceBytes

/-- The result of READ_SWITCHES (R16). -/
def State.switchesResult (s : State) : List Byte :=
  s.scan.switches.toList.map (fun w => flagByte w.filtered) ++ s.scan.switches.toList.map (fun w => flagByte w.stuck) ++
    [byte s.hit.queue.length]

/-- The values of a pool: one for a SHARED pool, four for a PLAYER pool (R176). -/
def PoolValue.list : PoolValue → List Nat
  | .shared v => [v]
  | .player vs => vs.toList

/-- A pool in READ_POOLS (R176): the scope gives the number of values, so no count stands before them (R195, log 24). -/
def Pool.bytes (q : Pool) : List Byte :=
  valueBytes q.base ++ valueBytes q.cap ++ q.value.scopeCode :: q.value.list.flatMap valueBytes

/-- The result of READ_POOLS (R176). -/
def State.poolsResult (s : State) : List Byte :=
  s.score.pools.toList.flatMap Pool.bytes ++ s.score.thresholds.toList.flatMap scoreBytes

/-- The result of READ_NOTICES (R202). -/
def State.noticesResult (s : State) : List Byte := [s.link.notices, s.link.mask, s.conditions, byte s.link.gap]

end Sys2Proof.Machine
end

