-- ==== Sys2Proof/Machine/Arith.lean ====
section
/-! DEFINITION. The Score Arithmetic Unit: the decimal adder and multiplier on digits (section 9.2), the credit of points
with saturation and thresholds, the bonus, and the pools (chapter 9). -/

namespace Sys2Proof.Machine

/-! ## Decimal digits, least significant first -/

/-- The `n` decimal digits of a number. -/
def digits : Nat → Nat → List Nat
  | 0, _ => []
  | n + 1, v => v % 10 :: digits n (v / 10)

/-- The number that a list of digits stands for. -/
def ofDigits : List Nat → Nat
  | [] => 0
  | d :: ds => d + 10 * ofDigits ds

/-- The adder, digit by digit with a carry (R163): the digits of the result, and the carry out of the last. -/
def addDigits : List Nat → List Nat → Nat → List Nat × Nat
  | a :: as, b :: bs, c =>
    let t := a + b + c
    let r := addDigits as bs (if 10 ≤ t then 1 else 0)
    ((if 10 ≤ t then t - 10 else t) :: r.1, r.2)
  | _, _, c => ([], c)

/-- The sum of two numbers of `n` digits, and whether the adder overflows (R163). -/
def decAdd (n a b : Nat) : Nat × Bool :=
  let r := addDigits (digits n a) (digits n b) 0
  (ofDigits r.1, r.2 == 1)

/-- The width of a product and of the points of an item (R164). -/
def productDigits : Nat := 10

/-- A value added to a 10-digit field `k` times (R164 step 1). -/
def addRepeatedly : Nat → Nat → Nat → Nat
  | 0, _, acc => acc
  | k + 1, v, acc => addRepeatedly k v (decAdd productDigits acc v).1

/-- A shift of one decimal place toward the most significant end (R164 step 2). -/
def shiftDecimal (v : Nat) : Nat := ofDigits ((0 :: digits productDigits v).take productDigits)

/-- The product of an 8-digit value and a multiplier of two digits (R164). -/
def decMul (v m : Nat) : Nat :=
  (decAdd productDigits (addRepeatedly (m % 10) v 0) (shiftDecimal (addRepeatedly (m / 10) v 0))).1

/-! ## The effective multiplier -/

/-- The clamp of a product of factors to 99, with its marker (R161). -/
def clampMult (product : Nat) : Nat × Bool := if 99 < product then (99, true) else (product, false)

/-- The effective multiplier of an entry from its source, its multiplied flag, the own factor and the inherited factor
(both 1 for the base page) and the playfield multiplier (R161). -/
def effectiveMult (source : Points) (multiplied : Bool) (own inherited field : Nat) : Nat × Bool :=
  match source with
  | .poolAdd _ => (1, false)
  | .fixed | .poolCollect _ => if multiplied then clampMult (own * inherited * field) else (1, false)

/-! ## Credit and thresholds -/

/-- The largest score. -/
def scoreMax : Nat := 99999999999999

/-- The largest 8-digit value: the bonus accumulator's clamp (R169). -/
def bonusMax : Nat := 99999999

/-- The score after a credit, and whether it saturates (R166). -/
def creditScore (score points : Nat) : Nat × Bool :=
  let r := decAdd 14 score points
  if r.2 then (scoreMax, true) else (r.1, false)

/-- The threshold of index `k` (threshold k + 1 of the manual) is crossed by a score (R167). -/
def crosses (thresholds : Vector Nat 3) (reached : Vector Bool 3) (score : Nat) (k : Fin 3) : Bool :=
  thresholds[k] != 0 && !reached[k] && thresholds[k] ≤ score

/-- The test of the thresholds after a credit to player `p` (R167). -/
def testThresholds (p : PlayerId) (s : State) : State :=
  let score := (s.record p).score
  let reached := (s.record p).reached
  let crossed := (List.finRange 3).filter (crosses s.score.thresholds reached score)
  if crossed = [] then s
  else
    (s.modRecord p fun r =>
      { r with reached := updAll r.reached fun k x => x || crosses s.score.thresholds reached score k }).report
      (.thresholdReached (p.val + 1) (crossed.map (·.val + 1)) score)

/-- A credit of points to player `p`'s score (R166), with the threshold test that follows it (R167). -/
def creditTo (p : PlayerId) (points : Nat) (s : State) : State :=
  let r := creditScore (s.record p).score points
  let first := r.2 && !(s.record p).limitReported
  let s := s.modRecord p fun x => { x with score := r.1, limitReported := x.limitReported || r.2 }
  testThresholds p (if first then s.report (.scoreLimit (p.val + 1) r.1) else s)

/-- A credit to the current player's score (R166). -/
def credit (points : Nat) (s : State) : State :=
  match s.game.current with
  | none => s
  | some p => creditTo p points s

/-- The bonus accumulator after a bonus add (R169). -/
def addBonus (accumulator add : Nat) : Nat :=
  let r := decAdd 8 accumulator add
  if r.2 || bonusMax < r.1 then bonusMax else r.1

/-- The bonus points of a record (R171). -/
def Player.bonusPoints (r : Player) : Nat := decMul r.bonus r.bonusMult

/-- The record after a bonus payment or a bonus clear (R171). -/
def Player.clearBonus (r : Player) : Player := { r with bonus := 0, bonusMult := 1 }

/-- The current player's bonus is settled at a ball end: credited and cleared, or with the ball tilted cleared alone
(R171). -/
def settleBonus (s : State) : State :=
  match s.game.current with
  | none => s
  | some p =>
    (if s.game.tilted then s else creditTo p (s.record p).bonusPoints s).modRecord p Player.clearBonus

/-! ## Pools -/

/-- The value of a pool that a player reaches (R172). -/
def Pool.current (q : Pool) (p : Option PlayerId) : Nat :=
  match q.value, p with
  | .shared v, _ => v
  | .player vs, some p => vs[p]
  | .player _, none => 0

/-- The pool with the value that a player reaches replaced (R172). -/
def Pool.setCurrent (q : Pool) (p : Option PlayerId) (v : Nat) : Pool :=
  match q.value, p with
  | .shared _, _ => { q with value := .shared v }
  | .player vs, some p => { q with value := .player (vs.set p v) }
  | .player _, none => q

/-- A change of every value of a pool. -/
def Pool.mapValues (q : Pool) (f : Nat → Nat) : Pool :=
  match q.value with
  | .shared v => { q with value := .shared (f v) }
  | .player vs => { q with value := .player (vs.map f) }

/-- Every value of a pool returns to its base (R172). -/
def Pool.toBase (q : Pool) : Pool := q.mapValues fun _ => q.base

/-- A pool's value after a POOL_ADD (R173). -/
def Pool.grown (q : Pool) (v add : Nat) : Nat :=
  let r := decAdd 8 v add
  if r.2 || q.cap < r.1 then q.cap else r.1

def State.pool (s : State) (j : Fin 8) : Pool := s.score.pools[j]

def State.modPool (j : Fin 8) (f : Pool → Pool) (s : State) : State :=
  s.modScore fun u => { u with pools := upd u.pools j f }

/-- The points of an applied entry (R165), before its credit. -/
def State.points (s : State) (source : Points) (value m : Nat) : Nat :=
  match source with
  | .fixed => decMul value m
  | .poolCollect j => decMul ((s.pool j).current s.game.current) m
  | .poolAdd _ => 0

/-- The effect of an applied entry on its pool (R165, R173, R174). -/
def poolEffect (source : Points) (value : Nat) (s : State) : State :=
  match source with
  | .fixed => s
  | .poolCollect j => s.modPool j fun q => q.setCurrent s.game.current q.base
  | .poolAdd j => s.modPool j fun q => q.setCurrent s.game.current (q.grown (q.current s.game.current) value)

end Sys2Proof.Machine
end

