-- ==== Sys2Proof/Machine/GameFlow.lean ====
section
/-! DEFINITION. The Game Controller: ball start and ball end, the launch, what it does with the live counts it is told,
the game end and the abandon sequence, tilt, ball save and the multiball flag (chapter 4). -/

namespace Sys2Proof.Machine

/-! ## Game state -/

/-- The game state changes; a search in progress ends STOPPED when the game leaves IN_PLAY (R59). -/
def setGameState (g : GameState) (s : State) : State :=
  let s := s.modGame fun x => { x with state := g }
  if g = .inPlay then s else endSearch .stopped s

/-- Ball save becomes OFF with remaining time 0, without a report (R71, R75, R79). -/
def saveOff (s : State) : State := s.modGame fun g => { g with save := .off, saveLeft := 0 }

/-- The multiball flag takes a value. -/
def setMultiball (b : Bool) (s : State) : State := s.modGame fun g => { g with multiball := b }

/-! ## Ball start and launch -/

/-- The tilted flag, the time of the last counted warning and the current player's warnings are cleared (R67 step 1). -/
def clearTilt (s : State) : State :=
  (s.modGame fun g => { g with tilted := false, lastWarning := none }).modCurrent fun r => { r with warnings := 0 }

/-- Ball save at a ball start (R67 step 4). -/
def armSave (s : State) : State :=
  s.modGame fun g =>
    if s.settings.saveSeconds = 0 then { g with save := .off, saveLeft := 0 }
    else { g with save := .armed, saveLeft := s.settings.saveSeconds * 1000 }

/-- The extra balls pending of the current player. -/
def State.extraBalls (s : State) : Nat :=
  match s.game.current with
  | none => 0
  | some p => (s.record p).extraBalls

/-- The lane holds its ball with no launch confirmation open (R67 step 7). -/
def State.laneReady (s : State) : Bool := (s.device 1).census == 1 && s.dev.launchAt.isNone

/-- Step 7 of a ball start: the ball in the lane is this ball's ball, or a SERVE is queued (R67). -/
def serveBall (s : State) : State :=
  if s.laneReady then setGameState .ready s else placeRequest 0 .serve 1 s

/-- A ball start for the current player and ball number (R67). -/
def ballStart (again : Bool) (s : State) : State :=
  let s := setGameState .serving s
  let s := (clearTilt s).modCurrent fun r => { r with fieldMult := 1 }
  let s := armSave (setMultiball false s)
  let s := s.report (.ballStarted s.playerNo s.game.ball s.game.players s.extraBalls again)
  serveBall (restoreFrames s)

/-- The launch of the ball in play: IN_PLAY, BALL_LAUNCHED, and an ARMED ball save begins to count (R69). -/
def launchBall (route : Route) (s : State) : State :=
  let s := (setGameState .inPlay s).report (.ballLaunched s.playerNo s.game.ball route)
  if s.game.save = .armed then
    (s.modGame fun g => { g with save := .counting }).report (.saveStarted s.playerNo s.game.saveLeft)
  else s

/-- The Game Controller is told that the shooter lane has settled at 1 by a serve (R68). -/
def toldServed (s : State) : State := if s.game.state = .serving then setGameState .ready s else s

/-- The Game Controller is told of a lost serve (R68). -/
def toldLostServe (s : State) : State := if s.game.state = .serving then launchBall .serveLost s else s

/-- The Game Controller is told of a return, or of a fall-back that leaves the ball in the lane (R68). -/
def toldInLane (s : State) : State :=
  if s.game.state = .serving then setGameState .ready (withdrawServe s) else s

/-- The Game Controller is told of a confirmed launch (R68, R69). -/
def toldLaunched (route : Route) (s : State) : State :=
  match s.game.state with
  | .serving => launchBall route (withdrawServe s)
  | .ready => launchBall route s
  | .noGame | .inPlay | .ballOver => s

/-! ## Ball end -/

/-- The entry to BALL_OVER (R71). The game state is set first (log 19). -/
def ballOver (s : State) : State :=
  let s := setMultiball false (saveOff (setGameState .ballOver s))
  let s := suspendFrames (endFrames .ballOver (fun d => !d.carry) s)
  let points := match s.game.current with
    | none => 0
    | some p => if s.game.tilted then 0 else (s.record p).bonusPoints
  let s := settleBonus s
  let score := match s.game.current with
    | none => 0
    | some p => (s.record p).score
  s.report (.ballEnded s.playerNo s.game.ball points score s.game.tilted)

/-- The test of the multiball flag against a live count (R83). -/
def testMultiball (live : Nat) (s : State) : State :=
  if !s.game.multiball && 2 ≤ live then setMultiball true s
  else if s.game.multiball && live = 1 then
    let s := setMultiball false s
    endFrames .multiballOver (·.endWithMultiball) (s.report (.multiballOver s.playerNo))
  else s

/-- The Game Controller acts on a live count it is told (R70). -/
def tellLive (live : Nat) (s : State) : State :=
  match s.game.state with
  | .serving | .ready => if live = 0 then ballOver s else s
  | .inPlay => if live = 0 then ballOver s else testMultiball live s
  | .ballOver | .noGame => s

/-- The live count is told when it differs from the value before the event, and the multiball flag is tested at an entry to
IN_PLAY (R50, R83). -/
def tellAfter (before s : State) : State :=
  if s.running then
    if s.live ≠ before.live then tellLive s.live s
    else if s.game.state = .inPlay ∧ before.game.state ≠ .inPlay then testMultiball s.live s
    else s
  else s

/-- One event taken whole: when it has been taken the live count is told (R50), and a frame whose timer it has paused keeps
its last millisecond (R142). Each entry and each unexpected exit of a settled change is one (R20, R22). -/
def whole (f : State → State) (s : State) : State := settleExpiries (tellAfter s (f s))

/-! ## Releasing held balls, the game end, the abandon sequence -/

/-- Entries of the HOLD devices with the tags named are retagged RELEASING, with a RELEASE request at each device (R66,
R73, R75, R79). -/
def releaseHeld (which : Tag → Bool) (s : State) : State := forEach holdDevices (releaseTagged which) s

def Tag.isLocked : Tag → Bool
  | .locked _ => true
  | _ => false

def Tag.isParkedOrStray : Tag → Bool
  | .parked | .stray => true
  | _ => false

/-- The scores of the players in the game, from player 1 upward (R73). -/
def State.scores (s : State) : List Nat := (s.game.records.toList.take s.game.players).map (·.score)

/-- The end of a game that ADVANCE_BALL reaches (R73). -/
def gameEnd (s : State) : State :=
  let s := abortAllCarried (releaseHeld Tag.isLocked s)
  setGameState .noGame (s.report (.gameEnded .normal s.game.players s.scores))

/-- The abandon sequence of a slam and of END_GAME (R75). -/
def abandon (reason : GameEnd) (s : State) : State :=
  let s := abortAllCarried (abortStack (setMultiball false (saveOff s)))
  let s := releaseHeld (fun t => t.isLocked || t.isParkedOrStray) s
  let s := removeRequests 1 .launch (removeRequests 0 .serve s)
  setGameState .noGame (s.report (.gameEnded reason s.game.players s.scores))

/-- A SLAM closure (R76). -/
def slamClosure (s : State) : State := if s.gameInProgress then abandon .slam s else s

/-! ## Tilt -/

/-- The ball becomes tilted (R79). -/
def tiltBall (s : State) : State :=
  let s := abortStack (s.modGame fun g => { g with tilted := true })
  let s := match s.game.current with
    | none => s
    | some p => abortCarried p s
  let s := releaseHeld Tag.isParkedOrStray (saveOff s)
  let w := match s.game.current with
    | none => 0
    | some p => (s.record p).warnings
  s.report (.tilted s.playerNo w)

/-- A TILT closure is counted as a warning (R78). -/
def State.warningCounts (s : State) : Bool :=
  (s.game.state == .serving || s.game.state == .ready || s.game.state == .inPlay) && !s.game.tilted &&
    match s.game.lastWarning with
    | none => true
    | some t => t + tiltSettleMs ≤ s.now

/-- A TILT closure (R78). -/
def tiltClosure (s : State) : State :=
  match s.game.current with
  | none => s
  | some p =>
    if s.warningCounts then
      let s := (s.modRecord p fun r => { r with warnings := r.warnings + 1 }).modGame fun g =>
        { g with lastWarning := some s.now }
      let w := (s.record p).warnings
      let s := s.report (.tiltWarning (p.val + 1) w s.settings.tiltLimit)
      if w = s.settings.tiltLimit then tiltBall s else s
    else s

/-! ## Ball save -/

/-- The expiry of a COUNTING save (R80). -/
def expireSave (s : State) : State := (saveOff s).report (.saveEnded s.playerNo)

/-- The longest ball save, in seconds (R81). -/
def saveLimit : Nat := 30

/-- A START_SAVE of a number of seconds, from an action or from the host (R81). -/
def startSave (seconds : Nat) (s : State) : State :=
  let t := min saveLimit seconds * 1000
  if s.game.tilted then s
  else
    match s.game.state with
    | .inPlay =>
      if s.game.save = .counting then
        if s.game.saveLeft < t then
          (s.modGame fun g => { g with saveLeft := t }).report (.saveStarted s.playerNo t)
        else s
      else if t = 0 then s
      else (s.modGame fun g => { g with save := .counting, saveLeft := t }).report (.saveStarted s.playerNo t)
    | .serving | .ready =>
      if t = 0 then s
      else s.modGame fun g => { g with save := .armed, saveLeft := max g.saveLeft t }
    | .noGame | .ballOver => s

/-- A drain is made known to the Game Controller: while ball save is COUNTING it is saved (R82). -/
def toldDrain (s : State) : State :=
  if s.game.save = .counting then
    (placeRequest 0 .serve 1 s).report (.ballSaved s.playerNo s.game.saveLeft)
  else s

end Sys2Proof.Machine
end

