-- ==== Sys2Proof/Machine/HitQueue.lean ====
section
/-! DEFINITION. The hit queue (section 1.6): how closures, device hits and virtual hits are placed in it, and how a repeat
is taken from its front. -/

namespace Sys2Proof.Machine

/-- The longest hit queue (section 1.6). -/
def hitLimit : Nat := 24

/-- The source of a physical switch has the switch's number. -/
def switchSource (n : SwitchId) : SourceId := ⟨n.val, by omega⟩

/-- The device hit of device `d` is source 72 + d. -/
def deviceSource (d : DeviceId) : SourceId := ⟨72 + d.val, by omega⟩

/-- The source table entry of a source. -/
def State.source (s : State) (x : SourceId) : Source := s.scan.sources[x]

/-- What becomes of an offered closure (R13): the queue that is left, or `none` where the closure is dropped. -/
def placeClosure (x : SourceId) (t : Stamp) (q : List Hit) : Option (List Hit) :=
  match q.getLast? with
  | some h =>
    if h.source = x then
      if h.repeats < 255 then some (q.dropLast ++ [{ h with repeats := h.repeats + 1 }]) else none
    else if q.length < hitLimit then some (q ++ [⟨x, t, 1⟩])
    else none
  | none => some [⟨x, t, 1⟩]

/-- A PLAYFIELD closure is offered to the hit queue (R13). -/
def offerClosure (x : SourceId) (s : State) : State :=
  match placeClosure x s.clock s.hit.queue with
  | some q => s.modHit fun u => { u with queue := q }
  | none => s.notice .switchOverrun

/-- A hit is appended as a new entry with repeat count 1, and a SWITCH_CHANGE report follows when the source's report flag
is on (R9, R14, R15). -/
def appendHit (x : SourceId) (s : State) : State :=
  let s := s.modHit fun u => { u with queue := u.queue ++ [⟨x, s.clock, 1⟩] }
  if (s.source x).reportFlag then s.report (.switchChange x.val true false) else s

/-- The device hit that the Lock Manager appends after an entry decision in IN_PLAY or READY (R14, R96). -/
def deviceHit (d : DeviceId) (s : State) : State :=
  if s.playable then
    if s.hit.queue.length < hitLimit then appendHit (deviceSource d) s else s.notice .switchOverrun
  else s

/-- One repeat of the front entry is taken (R12). -/
def takeRepeat (q : List Hit) : List Hit :=
  match q with
  | [] => []
  | h :: t => if h.repeats ≤ 1 then t else { h with repeats := h.repeats - 1 } :: t

end Sys2Proof.Machine
end

