-- ==== Sys2Proof/Machine/Locks.lean ====
section
/-! DEFINITION. The Lock Manager: lighting locks, the entry decision, replacement, make-room, lock multiball, displaced
locks and added balls (chapter 5). -/

namespace Sys2Proof.Machine

/-! ## Lighting and added balls -/

/-- A device that is a lockable HOLD device (R87). -/
def Device.lockable (v : Device) : Bool := v.record.kind == .hold && v.record.lockable

/-- A LIGHT_LOCK at a device for player `p` (R87): the state after, and whether lit was clamped. -/
def lightLockFor (p : PlayerId) (d : DeviceId) (s : State) : State × Bool :=
  let goal := (s.device d).record.goal
  let l := s.lockAt p d
  let clamped := goal ≤ l.lit + l.made
  let s := if clamped then s else s.modLockAt p d fun l => { l with lit := l.lit + 1 }
  (s.report (.lockLit (p.val + 1) d (s.lockAt p d).lit l.made goal clamped), clamped)

/-- The LIGHT_LOCK action: nothing at a device outside 2 to 7 or not lockable (R87). -/
def lightLock (d : DeviceId) (s : State) : State :=
  match s.game.current with
  | none => s
  | some p => if (lockIndex d).isSome && (s.device d).lockable then (lightLockFor p d s).1 else s

/-- An ADD_BALL takes effect in IN_PLAY and READY with the ball not tilted (R99, R100). -/
def State.addBallWorks (s : State) : Bool := s.playable && !s.game.tilted

/-- An ADD_BALL: one SERVE when a spare is unclaimed, and MULTIBALL_STARTED (R99); the number of balls served. -/
def addBall (s : State) : State × Nat :=
  let served := if 1 ≤ s.unclaimed then 1 else 0
  let s := if served = 1 then placeRequest 0 .serve 1 s else s
  (s.report (.multiballStarted .addBall s.playerNo none 0 1 served), served)

/-! ## Displaced locks -/

/-- The LOCK_DISPLACED report of a lock of player `q` that has become virtual at a device (R98). -/
def reportDisplaced (d : DeviceId) (q : PlayerId) (cause : DisplacedCause) (s : State) : State :=
  s.report (.lockDisplaced d (q.val + 1) cause (s.lockAt q d).made (s.physical q d))

/-- An entry that left its device: a lock that was still LOCKED is displaced with cause EXIT (R98). -/
def reportExit (d : DeviceId) (t : Tag) (s : State) : State :=
  match t with
  | .locked q => reportDisplaced d q .exit s
  | _ => s

/-! ## Retagging one entry -/

/-- The first entry that meets a test is changed. -/
def modFirst (test : Held → Bool) (f : Held → Held) : List Held → List Held
  | [] => []
  | h :: t => if test h then f h :: t else h :: modFirst test f t

/-- The newest entry is changed. -/
def modLast (f : Held → Held) : List Held → List Held
  | [] => []
  | [h] => [f h]
  | h :: x :: t => h :: modLast f (x :: t)

/-- An entry retagged RELEASING; its hold timer is void (R24). -/
def Held.release (h : Held) : Held := { h with tag := .releasing, holdAt := none }

/-- The newest entry of a device is retagged RELEASING, and a RELEASE of count 1 is queued there. -/
def releaseNewest (d : DeviceId) (s : State) : State :=
  placeRequest d .release 1 (s.modDevice d fun v => v.withHeld (modLast Held.release v.held))

/-! ## The entry decision -/

/-- What becomes of a capture at a HOLD device (R90). -/
inductive Decision where
  | lock (p : PlayerId)
  | park
  | release
deriving DecidableEq, Repr

/-- The decision for a capture at a HOLD device (R90). -/
def State.decide (s : State) (d : DeviceId) : Decision :=
  if s.game.state = .inPlay ∧ ¬s.game.tilted then
    match s.game.current with
    | none => .park
    | some p => if (s.device d).lockable && 1 ≤ (s.lockAt p d).lit then .lock p else .park
  else .release

/-- The tag that a decision gives the entry (R90). -/
def Decision.tag : Decision → Tag
  | .lock p => .locked p
  | .park => .parked
  | .release => .releasing

/-- The replacement of a lock (R93). -/
def replaceLock (p : PlayerId) (d : DeviceId) (s : State) : State :=
  if 1 ≤ s.unclaimed then placeRequest 0 .serve 1 s
  else reportDisplaced d p .noSpare (releaseNewest d s)

/-- A device needs room after a lock of player `p` there (R94). -/
def State.needsRoom (s : State) (p : PlayerId) (d : DeviceId) : Bool :=
  let v := s.device d
  v.census == v.record.capacity && (s.lockAt p d).made < v.record.goal && v.tagged .releasing == 0

/-- The victim is the oldest entry that is not LOCKED(p), and where there is none the oldest entry (R94). -/
def isVictim (p : PlayerId) (held : List Held) (h : Held) : Bool :=
  h.tag != .locked p || held.all (·.tag = .locked p)

/-- Room is made in a full lock device: the victim is released, and a LOCKED victim is displaced (R94). -/
def makeRoom (p : PlayerId) (d : DeviceId) (s : State) : State :=
  if s.needsRoom p d then
    let held := (s.device d).held
    match held.find? (isVictim p held) with
    | none => s
    | some victim =>
      let s := placeRequest d .release 1
        (s.modDevice d fun v => v.withHeld (modFirst (isVictim p held) Held.release v.held))
      match victim.tag with
      | .locked q => reportDisplaced d q .makeRoom s
      | _ => s
  else s

/-- Lock multiball of player `p` at a device (R95). -/
def lockMultiball (p : PlayerId) (d : DeviceId) (s : State) : State :=
  let released := s.physical p d
  let requested := (s.lockAt p d).made - released
  let s := releaseTagged (· == .locked p) d s
  let wanted := min requested s.unclaimed
  let served := if s.wouldDrop 0 .serve wanted then 0 else wanted
  let s := if 1 ≤ wanted then placeRequest 0 .serve wanted s else s
  let s := s.modLockAt p d fun _ => ⟨0, 0⟩
  s.report (.multiballStarted .lock (p.val + 1) (some d) released requested served)

/-- A lock of a capture by player `p`, whose entry has been appended LOCKED(p) (R92). -/
def lockCapture (p : PlayerId) (d : DeviceId) (s : State) : State :=
  let s := s.modLockAt p d fun l => ⟨l.lit - 1, l.made + 1⟩
  let l := s.lockAt p d
  let goal := (s.device d).record.goal
  let s := s.report (.lockMade (p.val + 1) d l.lit l.made goal)
  if l.made = goal then lockMultiball p d s else makeRoom p d (replaceLock p d s)

/-- A PARKED or STRAY entry of a device with hold time 0 is released at the tagging (R24, log 34). -/
def releaseAtOnce (d : DeviceId) (s : State) : State :=
  if (s.device d).record.hold = 0 then releaseNewest d s else s

/-- What a decision does after the entry has been appended with its tag (R90 to R95). -/
def carryOut (c : Decision) (d : DeviceId) (s : State) : State :=
  match c with
  | .lock p => lockCapture p d s
  | .park => releaseAtOnce d s
  | .release => placeRequest d .release 1 s

end Sys2Proof.Machine
end

