-- ==== Sys2Proof/Machine/Devices.lean ====
section
/-! DEFINITION. The Ball Device Controller: entries and exits, the ends of an attempt, and what a settled change does at a
hold device, at the trough and at the shooter lane (chapter 2, with R51 to R55). -/

namespace Sys2Proof.Machine

/-! ## Entries -/

/-- The hold timer an entry of a device starts with when it is tagged PARKED or STRAY (R24). -/
def State.holdDeadline (s : State) (d : DeviceId) (t : Tag) : Option Nat :=
  match t with
  | .parked | .stray => some (s.now + (s.device d).record.hold)
  | _ => none

/-- An entry is appended to a device's held-ball list (R21, R22). -/
def appendHeld (d : DeviceId) (t : Tag) (s : State) : State :=
  s.modDevice d fun v => v.withHeld (v.held ++ [⟨t, s.clock, s.holdDeadline d t⟩])

/-- The BALL_IN report of an entry just appended (R22). -/
def reportBallIn (d : DeviceId) (t : Tag) (s : State) : State := s.report (.ballIn d t (s.device d).census)

/-- A phantom entry is refused (R54). -/
def phantomEntry (d : DeviceId) (s : State) : State :=
  let s := activity (s.modDevice d fun v => { v with suspect := true })
  (s.notice .phantomEntry).report (.phantom d (s.device d).settled (s.device d).census)

/-- The ball of an entry is taken from free (R52). -/
def takeFree (s : State) : State := s.modTrack fun t => { t with free := t.free - 1 }

/-- The ball of an entry is taken from missing (R53). -/
def takeMissing (s : State) : State := s.modTrack fun t => { t with missing := t.missing - 1 }

/-- A drain into the trough (R22, R52, R82); the device hit stands before what ball save reports (log 44). -/
def drain (s : State) : State :=
  let s := activity (appendHeld 0 .spare (takeFree s))
  toldDrain (poke 0 (deviceHit 0 (reportBallIn 0 .spare s)))

/-- A found entry (R53): SPARE in the trough, STRAY in a hold device. -/
def foundEntry (d : DeviceId) (s : State) : State :=
  let t : Tag := if d = 0 then .spare else .stray
  let s := activity (appendHeld d t (takeMissing s))
  let s := reportBallIn d t (s.report (.ballFound d s.track.missing))
  if d = 0 then poke 0 (deviceHit 0 s) else deviceHit d (releaseAtOnce d s)

/-- A capture at a hold device (R22, R52, R90, R96). -/
def capture (d : DeviceId) (s : State) : State :=
  let c := s.decide d
  let s := activity (appendHeld d c.tag (takeFree s))
  deviceHit d (carryOut c d (reportBallIn d c.tag s))

/-- One entry at the trough or a hold device, classified from free and missing (R22, R51). -/
def entry (d : DeviceId) (s : State) : State :=
  if 1 ≤ s.track.free then (if d = 0 then drain s else capture d s)
  else if 1 ≤ s.track.missing then foundEntry d s
  else phantomEntry d s

/-- `k` entries at the trough or a hold device, one after another, each taken whole with its decision, its reports and the
live count told before the next is classified (R20, R22, R50, R96). -/
def entries (d : DeviceId) (k : Nat) (s : State) : State := times k (whole (entry d)) s

/-! ## Exits -/

/-- The order in which an exit picks the class of its entry (R23). -/
def exitRank : Tag → Nat
  | .releasing => 0
  | .parked => 1
  | .stray => 2
  | .locked _ => 3
  | .spare => 4

/-- The place of the oldest entry of a rank. -/
def oldestOfRank (held : List Held) (r : Nat) : Option Nat := held.findIdx? fun h => exitRank h.tag == r

/-- The entry that an exit removes: the oldest of the first class the list holds (R23). -/
def exitPick (held : List Held) : Option Nat := (List.range 5).findSome? (oldestOfRank held)

/-- The entry at a place of a device's list is removed and its ball is counted free (R23, R32). -/
def removeToFree (d : DeviceId) (i : Nat) (s : State) : State :=
  activity ((s.modDevice d fun v => v.withHeld (v.held.eraseIdx i)).modTrack fun t => { t with free := t.free + 1 })

/-- The sum of the RELEASE counts in a queue. -/
def releaseCounts (q : List Request) : Nat := ((q.filter (·.purpose = .release)).map (·.count)).sum

/-- The newest RELEASE request is reduced by 1 where the RELEASE counts exceed the RELEASING entries (R23). -/
def reduceRelease (d : DeviceId) (s : State) : State :=
  let v := s.device d
  if v.tagged .releasing < releaseCounts v.queue then
    let q := modNewest .release
      (fun isHead r =>
        if r.count ≤ 1 then (if isHead && v.attempting then some { r with count := 0 } else none)
        else some { r with count := r.count - 1 }) true v.queue
    let headGone := q.length < v.queue.length ∧ ¬(v.queue.tail.any (·.purpose = .release))
    retest headGone d (s.modDevice d fun v => { v with queue := q, attempts := if headGone then 0 else v.attempts })
  else s

/-- One unexpected exit that is not set against an excess (R23). -/
def unexpectedExit (d : DeviceId) (s : State) : State :=
  match exitPick (s.device d).held with
  | none => s
  | some i =>
    match (s.device d).held[i]? with
    | none => s
    | some h =>
      let s := removeToFree d i s
      let s := reportExit d h.tag (s.report (.ballOut d h.tag .unexpected (s.device d).census))
      retest false d (if h.tag = .releasing then reduceRelease d s else s)

/-- `k` units of a settled decrease taken as unexpected exits: first against the excess of the settled count before the
decrease, then one after another, each taken whole (R20, R23). -/
def unexpectedExits (d : DeviceId) (before k : Nat) (s : State) : State :=
  times (k - (before - (s.device d).census)) (whole (unexpectedExit d)) s

/-! ## The ends of an attempt -/

/-- The head request of a device is finished by `n` of its count: the attempt count returns to 0, and SPACING or the
readiness test of the next head follows (R32). -/
def finishHead (d : DeviceId) (n : Nat) (s : State) : State :=
  match (s.device d).queue with
  | [] => testReadiness d s
  | r :: rest =>
    if n < r.count then
      arbitrate (s.modDevice d fun v =>
        { v with queue := { r with count := r.count - n } :: rest, attempts := 0, eject := .spacing (s.now + spacingMs) })
    else testReadiness d (s.modDevice d fun v => { v with queue := rest, attempts := 0, eject := .idle })

/-- The purpose of the head request. -/
def Device.headPurpose (v : Device) : Purpose :=
  match v.queue with
  | [] => .release
  | r :: _ => r.purpose

/-- An attempt fails: RECOVERING, or JAMMED at the fourth failure (R33); a head kept at count 0 is removed (R23). -/
def failAttempt (d : DeviceId) (cause : FailCause) (s : State) : State :=
  let p := (s.device d).headPurpose
  let a := (s.device d).attempts + 1
  let s := s.report (.ejectFailed d p a cause)
  if (s.device d).queue.head?.any (·.count = 0) then
    testReadiness d (s.modDevice d fun v => { v with queue := v.queue.tail, attempts := 0, eject := .idle })
  else if a < 4 then
    arbitrate (s.modDevice d fun v => { v with attempts := a, eject := .recovering (s.now + recoveryMs) })
  else
    let s := s.modDevice d fun v => { v with attempts := a, eject := .jammed }
    arbitrate ((s.report (.jammed d p)).notice .deviceJammed)

/-- The cause of a BALL_OUT for a successful attempt: the request's purpose (R32). -/
def Purpose.cause : Purpose → OutCause
  | .serve => .serve
  | .launch => .launch
  | .release => .release
  | .search => .search

/-- An attempt at a hold device succeeds: the oldest RELEASING entry is removed, or in its absence the one R23 names, and
the head is finished (R32, log 11). -/
def succeed (d : DeviceId) (s : State) : State :=
  let cause := (s.device d).headPurpose.cause
  let s := match exitPick (s.device d).held with
    | none => s
    | some i =>
      match (s.device d).held[i]? with
      | none => s
      | some h =>
        let s := removeToFree d i s
        reportExit d h.tag (s.report (.ballOut d h.tag cause (s.device d).census))
  finishHead d 1 s

/-! ## Settled changes at a hold device -/

/-- The attempt of a RELEASE head is observed: the machine is PULSING or CONFIRMING for it; with when its exit was observed
(R30). A SEARCH pulse is not judged (R31). -/
def Device.observation (v : Device) : Option (Option Nat) :=
  if v.headPurpose = .release then
    match v.eject with
    | .pulsing _ x | .confirming _ x => some x
    | _ => none
  else none

/-- The observed exit of an attempt is recorded (R30). -/
def Eject.withExit (t : Nat) : Eject → Eject
  | .pulsing e _ => .pulsing e (some t)
  | .confirming e _ => .confirming e (some t)
  | e => e

/-- A settled increase of `k` at a hold device (R20, R30). -/
def holdIncrease (d : DeviceId) (k : Nat) (s : State) : State :=
  match (s.device d).observation with
  | some (some t) =>
    if s.now ≤ t + fallBackMs then entries d (k - 1) (failAttempt d .fallBack s)
    else entries d k (whole (succeed d) s)
  | _ => entries d k s

/-- A settled decrease of `k` from the count `before` at a hold device (R20, R30, R34). -/
def holdDecrease (d : DeviceId) (before k : Nat) (s : State) : State :=
  match (s.device d).observation with
  | some none =>
    unexpectedExits d before (k - 1) (s.modDevice d fun v => { v with eject := v.eject.withExit s.now })
  | some (some _) => unexpectedExits d before k s
  | none =>
    if (s.device d).eject = .jammed then
      unexpectedExits d (before - 1) (k - 1) (whole (succeed d) (s.report (.unjammed d .exit)))
    else unexpectedExits d before k s

/-! ## The trough -/

/-- The reconciliation of the trough's settled count with its census count (R37). When it has been made the trough makes its
readiness test where it stands in IDLE (log 43). -/
def reconcile (s : State) : State :=
  let n := (s.device 0).settled
  let c := (s.device 0).census
  let s := if c < n then entries 0 (n - c) s else times (c - n) (whole (unexpectedExit 0)) s
  poke 0 (s.modDev fun u => { u with reconciling := false })

/-- A trough attempt or late exit has ended: the reconciliation is made at once, or waits for a running settle timer (R37). -/
def beginReconcile (s : State) : State :=
  let s := s.modDev fun u => { u with late := .none, reconciling := true }
  if (s.device 0).settleAt.isNone then reconcile s else s

/-- The head of the trough is finished at the end of its attempt, while the reconciliation waits (R32, R36, R37). -/
def finishServe (s : State) : State :=
  finishHead 0 1 (s.modDev fun u => { u with late := .none, reconciling := true })

/-- The oldest SPARE leaves the trough's list. -/
def dropSpare (v : Device) : Device := v.withHeld (v.held.eraseP (·.tag = .spare))

/-- A lost serve: the ball left the trough and did not reach the lane (R36 outcome 2, R38). Where the list holds no SPARE, no
ball is counted free and no BALL_OUT is queued, and the count is used up all the same (DESIGN CHOICE, log 48). -/
def loseServe (s : State) : State :=
  if (s.device 0).tagged .spare = 0 then finishServe s
  else
    let s := activity ((s.modDevice 0 dropSpare).modTrack fun t => { t with free := t.free + 1 })
    finishServe (toldLostServe (s.report (.ballOut 0 .spare .unexpected (s.device 0).census)))

/-- The end of an attempt or late exit whose serve is lost, with the reconciliation that follows it (R36 outcome 2, R37,
R38). -/
def lostServe (s : State) : State := beginReconcile (whole loseServe s)

/-- A late exit opens a fresh confirm window without a pulse (R38). -/
def openLateExit (s : State) : State :=
  let s := if (s.device 0).eject = .jammed then s.report (.unjammed 0 .exit) else s
  let lane := 1 ≤ (s.device 1).census || s.dev.launchAt.isSome
  (s.modDev fun u => { u with late := if lane then .lostOnly else .judged }).modDevice 0 fun v =>
    { v with eject := .confirming (some (s.now + v.record.confirm)) none }

/-- The end of the trough's confirm window (R36 outcomes 2 and 3, R38). It is judged by the trough's counts alone, also where
the lane's settled count stands at 1 as an excess (log 40). -/
def troughWindowEnd (s : State) : State :=
  if s.dev.late ≠ .none ∨ (s.device 0).settled < (s.device 0).census then lostServe s
  else beginReconcile (failAttempt 0 .noExit s)

/-- A settled decrease opens a late exit at the trough (R38, log 14), also where the trough is SUSPECT with an excess (log
42). -/
def Device.lateExit (v : Device) : Bool := v.queue.head?.any (·.purpose = .serve) && 1 ≤ v.attempts && !v.attempting

/-- The settle timer of the trough has expired with the count `before` held until then (R20, R36 to R38). -/
def troughSettled (before : Nat) (s : State) : State :=
  let v := s.device 0
  if v.attempting then s
  else if s.dev.reconciling then reconcile s
  else if before < v.settled then entries 0 (v.settled - before) s
  else if v.settled < before then
    if v.lateExit then openLateExit s else unexpectedExits 0 before (before - v.settled) s
  else s

/-! ## The shooter lane -/

/-- The auto-launch delay starts when the lane settles at 1 under its conditions (R42). -/
def startAutoLaunch (s : State) : State :=
  let r := (s.device 1).record
  if s.game.state = .inPlay ∧ r.launchCoil ∧ r.autoLaunch then
    s.modDev fun u => { u with autoAt := some (s.now + autoLaunchMs) }
  else s

/-- The serve that the lane's increase completes is being observed (R36, R38, R41). -/
def State.serveObserved (s : State) : Bool := (s.device 0).attempting && s.dev.late != .lostOnly

/-- A serve reaches the shooter lane: the ball moves from the trough to the lane in one change (R36 outcome 1). -/
def completeServe (s : State) : State :=
  let s := appendHeld 1 .spare (s.modDevice 0 dropSpare)
  let s := reportBallIn 1 .spare (s.report (.ballOut 0 .spare .serve (s.device 0).census))
  finishServe (poke 1 (startAutoLaunch (toldServed s)))

/-- The end of an attempt or late exit whose serve has reached the lane, with the reconciliation that follows it (R36, R37). -/
def serveArrival (s : State) : State := beginReconcile (whole completeServe s)

/-- A return into the shooter lane, or its refusal as a phantom (R41, log 38). -/
def laneReturn (s : State) : State :=
  if 1 ≤ s.track.free ∧ (s.device 1).census = 0 then
    let s := activity (appendHeld 1 .spare (takeFree s))
    let s := deviceHit 1 (reportBallIn 1 .spare s)
    poke 1 (retest false 0 (startAutoLaunch (toldInLane s)))
  else phantomEntry 1 s

/-- A fall-back into the shooter lane closes the launch confirmation (R39). -/
def laneFallBack (s : State) : State :=
  let s := s.modDev fun u => { u with launchAt := none }
  let s := if (s.device 1).attempting then failAttempt 1 .fallBack s else poke 1 s
  poke 0 (toldInLane s)

/-- A settled increase of the shooter lane (R36, R39, R41, log 39). -/
def laneIncrease (s : State) : State :=
  if s.dev.launchAt.isSome then whole laneFallBack s
  else if s.serveObserved && 1 ≤ (s.device 0).tagged .spare then serveArrival s
  else whole laneReturn s

/-- A settled decrease of the shooter lane: it opens a launch confirmation while the census count is 1 (R39). -/
def laneDecrease (s : State) : State :=
  if (s.device 1).census = 1 ∧ s.dev.launchAt.isNone then
    retest false 1 (s.modDev fun u => { u with launchAt := some (s.now + launchConfirmMs) })
  else s

/-- The shooter entry leaves the lane and its ball is counted free (R39). -/
def leaveLane (s : State) : State := if (s.device 1).census = 0 then s else removeToFree 1 0 s

/-- The launch is confirmed (R39). -/
def confirmLaunch (s : State) : State :=
  let attempt := (s.device 1).attempting
  let s := s.modDev fun u => { u with launchAt := none }
  let s := leaveLane s
  let s := s.report (.ballOut 1 .spare (if attempt then .launch else .plunge) (s.device 1).census)
  let s := toldLaunched (if attempt then .launch else .plunge) s
  let s :=
    if attempt then finishHead 1 1 s
    else if (s.device 1).eject = .jammed then testReadiness 1 (s.report (.unjammed 1 .exit))
    else poke 1 s
  poke 0 s

/-! ## The settle timer -/

/-- The number of closed position switches of a device (R19). -/
def Device.closed (v : Device) : Nat := v.copies.countP id

/-- The settle timer of a device expires: the settled count is taken, and in RUNNING a change is taken by the device's kind
(R19, R20), as the events it is made of, each taken whole. -/
def settle (d : DeviceId) (s : State) : State :=
  let before := (s.device d).settled
  let s := s.modDevice d fun v => { v.withSettled v.closed with settleAt := none }
  let n := (s.device d).settled
  if (s.device d).eject = .off then s
  else if d = 0 then troughSettled before s
  else if d = 1 then (if before < n then laneIncrease s else if n < before then laneDecrease s else s)
  else if before < n then holdIncrease d (n - before) s
  else if n < before then holdDecrease d before (before - n) s
  else s

/-- An accepted change of a DEVICE switch updates the copies of the devices that name it and restarts their settle timers
(R7, R19). -/
def routeToDevices (n : SwitchId) (closed : Bool) (s : State) : State :=
  s.modDev fun u =>
    { u with devices := updAll u.devices fun _ v =>
        if n ∈ v.record.switches then
          { v with
            copies := List.zipWith (fun x c => if x = n then closed else c) v.record.switches v.copies
            settleAt := some (s.now + v.record.settle) }
        else v }

/-! ## Timers of the devices -/

/-- The hold timer of an entry has run (R24). -/
def Held.due (now : Nat) (h : Held) : Bool := h.holdAt.any (· ≤ now)

/-- A hold timer expires: the oldest due entry is retagged RELEASING, and a RELEASE of count 1 is queued (R24). -/
def expireHold (d : DeviceId) (s : State) : State :=
  placeRequest d .release 1
    (s.modDevice d fun v => v.withHeld (modFirst (Held.due s.now) Held.release v.held))

/-- A SEARCH pulse ends without judgement (R31). -/
def endSearchPulse (d : DeviceId) (s : State) : State :=
  match (s.device d).queue with
  | [] => testReadiness d s
  | r :: rest =>
    let q := if r.count ≤ 1 then rest else { r with count := r.count - 1 } :: rest
    testReadiness d (s.modDevice d fun v =>
      { v with queue := q, attempts := if r.count ≤ 1 then 0 else v.attempts })

/-- The pulse time of a device has run (R29, R31). -/
def endPulse (d : DeviceId) (exitAt : Option Nat) (s : State) : State :=
  if (s.device d).headPurpose = .search then endSearchPulse d s
  else
    arbitrate (s.modDevice d fun v => { v with eject := .confirming (some (s.now + v.record.confirm)) exitAt })

/-- The confirm window of a device ends (R30, R36, R38, R40). -/
def endWindow (d : DeviceId) (exitAt : Option Nat) (s : State) : State :=
  if d = 0 then troughWindowEnd s
  else if d = 1 then
    if s.dev.launchAt.isSome then s.modDevice 1 fun v => { v with eject := .confirming none exitAt }
    else failAttempt 1 .noExit s
  else
    match exitAt with
    | some _ => whole (succeed d) s
    | none => failAttempt d .noExit s

/-! ## Coil power -/

/-- A pulse that the loss of coil power cuts (R29, R35): the device enters WAIT_POWER, and an exit already observed is taken
as an unexpected exit. The head keeps its count, but for what that exit takes from the newest RELEASE by R23, where the
head no longer counts as one with an attempt in progress (DEDUCED, log 47). A head kept at count 0 keeps that count (log 41). -/
def cutPulse (d : DeviceId) (s : State) : State :=
  match (s.device d).eject with
  | .pulsing _ exitAt =>
    let p := (s.device d).headPurpose
    let s := s.modDevice d fun v => { v with eject := .waitPower }
    let s :=
      if d = 0 then beginReconcile s
      else if d = 1 ∨ p = .search ∨ exitAt.isNone then s
      else unexpectedExits d ((s.device d).settled + 1) 1 s
    retest false d s
  | _ => s

/-- A device in WAIT_COIL enters WAIT_POWER (R35). -/
def loseGrant (v : Device) : Device :=
  match v.eject with
  | .waitCoil _ => { v with eject := .waitPower }
  | _ => v

/-- Coil power becomes absent (R35). That the pulses are cut in the order of the device numbers, and their reports queued in
it, is a DESIGN CHOICE (log 49). -/
def powerLost (s : State) : State :=
  let s := (s.modScan fun u => { u with power := .absent }).notice .coilPowerLost
  let s := s.modDev fun u => { u with devices := updAll u.devices fun _ => loseGrant }
  forEach (List.finRange 8) cutPulse s

/-- A device in WAIT_POWER makes the readiness test (R35). -/
def powerReadiness (d : DeviceId) (s : State) : State :=
  if (s.device d).eject = .waitPower then readiness d s else s

/-- Coil power becomes present (R35). -/
def powerBack (s : State) : State :=
  arbitrate (forEach (List.finRange 8) powerReadiness (s.modScan fun u => { u with power := .present }))

end Sys2Proof.Machine
end

