-- ==== Sys2Proof/Machine/Resolve.lean ====
section
/-! DEFINITION. The Hit Resolver: pages, conditions, actions, the walk, the completion chain and the HIT report
(chapter 8). -/

namespace Sys2Proof.Machine

/-! ## Pages and conditions -/

/-- The address of a page's entry for a rule offset; none where the offset lies beyond the page (R146). -/
def pageAddress (base length offset : Nat) : Option Nat := if offset < length then some (base + offset) else none

def State.var (s : State) (p : PlayerId) (v : Fin 16) : Nat := (s.hit.vars[p])[v]

def State.modVar (p : PlayerId) (v : Fin 16) (f : Nat → Nat) (s : State) : State :=
  s.modHit fun u => { u with vars := upd u.vars p fun t => upd t v f }

/-- The current player's variable (R150). -/
def State.currentVar (s : State) (v : Fin 16) : Nat :=
  match s.game.current with
  | none => 0
  | some p => s.var p v

/-- The test of a condition (R150). -/
def State.passes (s : State) : Condition → Bool
  | .none => true
  | .varSet v | .varTake v => 1 ≤ s.currentVar v

/-- The effect of a condition that passes (R150). -/
def takeCondition (c : Condition) (s : State) : State :=
  match c, s.game.current with
  | .varTake v, some p => s.modVar p v (· - 1)
  | _, _ => s

/-! ## Actions -/

/-- The largest value of a variable (R158). -/
def varMax : Nat := 65535

/-- The action of an applied entry (R152). `own` is the mode of the frame whose page held the entry; none for the base page
and for a link of the chain (R134). The awards that frames hand over are the second result (R153). -/
def applyAction (a : Action) (own : Option ModeId) (origin : StartOrigin) (s : State) : State × List Handed :=
  match a with
  | .none => (s, [])
  | .lightLock d => (lightLock d s, [])
  | .startMode m => ((startMode m origin s).1, [])
  | .stopMode m => (stopFrame m s, [])
  | .advance (some m) n => ((advanceMode m n s).1, (advanceMode m n s).2.2)
  | .advance none n =>
    match own with
    | none => (s, [])
    | some m => ((advanceMode m n s).1, (advanceMode m n s).2.2)
  | .startSave t => (startSave t s, [])
  | .addBall => (if s.addBallWorks then (addBall s).1 else s, [])
  | .extraBall => (s.modCurrent fun r => { r with extraBalls := min 9 (r.extraBalls + 1) }, [])
  | .bonusMultUp => (s.modCurrent fun r => { r with bonusMult := min 99 (r.bonusMult + 1) }, [])
  | .countVar v n =>
    match s.game.current with
    | none => (s, [])
    | some p => (s.modVar p v fun x => min varMax (x + n), [])

/-- What the application of an entry gives back (R151). -/
structure Applied where
  state : State
  points : Nat
  mult : Nat
  clamped : Bool
  handed : List Handed

/-- The current player's playfield multiplier (R162). -/
def State.fieldMult (s : State) : Nat :=
  match s.game.current with
  | none => 1
  | some p => (s.record p).fieldMult

/-- An entry applies, in the order of R151: points and credit, bonus add, action. -/
def applyEntry (source : Points) (multiplied : Bool) (value bonusAdd : Nat) (action : Action) (factors : Nat × Nat)
    (own : Option ModeId) (origin : StartOrigin) (s : State) : Applied :=
  let m := effectiveMult source multiplied factors.1 factors.2 s.fieldMult
  let points := s.points source value m.1
  let s := poolEffect source value (credit points s)
  let s := s.modCurrent fun r => { r with bonus := addBonus r.bonus bonusAdd }
  let r := applyAction action own origin s
  ⟨r.1, points, m.1, m.2, r.2⟩

/-! ## The walk -/

/-- A page of the snapshot as it stands at its visit: its base, its length and the factors it hands over (R149, R151). A
frame that has left the stack has none. -/
def State.page (s : State) (m : Option ModeId) : Option (Nat × Nat × Nat × Nat) :=
  match m with
  | none => some (s.settings.baseBase, s.settings.baseLength, 1, 1)
  | some m =>
    match s.frame m with
    | none => none
    | some f =>
      let d := s.descriptor m
      some (d.pageBase, d.pageLength, d.own, f.inherited)

/-- A walk in progress: the state, the pending list (R153), the items, and the frames of the snapshot that have ended
(R149). -/
structure Walk where
  state : State
  pending : List Handed
  items : List WalkItem
  ended : List ModeId

/-- The frames of the rest of a snapshot that are no longer on the stack (R149). -/
def endedFrames (snapshot : List (Option ModeId)) (s : State) : List ModeId :=
  (snapshot.filterMap id).filter fun m => (s.frame m).isNone

/-- The page has been passed over because its frame has ended earlier in the walk (R149). -/
def Walk.hasEnded (w : Walk) (page : Option ModeId) : Bool := page.any (w.ended.contains ·)

/-- The visit of one page: `none` where the page is passed over (R150), else the walk after the entry has applied and
whether it goes on (R151). -/
def visit (offset : Nat) (page : Option ModeId) (rest : List (Option ModeId)) (w : Walk) : Option (Walk × Bool) :=
  if w.hasEnded page then none
  else
    match w.state.page page with
    | none => none
    | some (base, length, own, inherited) =>
      match pageAddress base length offset with
      | none => none
      | some a =>
        match awardAt w.state.hit.awards a with
        | .empty => none
        | .award source multiplied passThrough value bonusAdd condition action =>
          if w.state.passes condition then
            let r := applyEntry source multiplied value bonusAdd action (own, inherited) page .action
              (takeCondition condition w.state)
            some (⟨r.state, w.pending ++ r.handed, w.items ++ [⟨page, a, r.points, r.mult, r.clamped⟩],
              w.ended ++ endedFrames rest r.state⟩, passThrough)
          else none

/-- The walk visits the snapshot in order until an entry without pass-through applies (R149, R151). -/
def walk (offset : Nat) : List (Option ModeId) → Walk → Walk
  | [], w => w
  | page :: rest, w =>
    match visit offset page rest w with
    | none => walk offset rest w
    | some (w', true) => walk offset rest w'
    | some (w', false) => w'

/-- The snapshot of the stack: its frames from the top, then the base page (R149). -/
def State.snapshot (s : State) : List (Option ModeId) := s.mode.stack.map (some ·.mode) ++ [none]

/-! ## The completion chain -/

/-- The most links of a resolution (R155). -/
def chainLimit : Nat := 4

/-- A chain in progress. -/
structure Chain where
  state : State
  pending : List Handed
  items : List ChainItem

/-- One link of the chain (R154). -/
def link (h : Handed) (c : Chain) : Chain :=
  let skipped : Chain := { c with items := c.items ++ [⟨h.mode, h.address, h.cause, 0, 0, false, true⟩] }
  match awardAt c.state.hit.awards h.address with
  | .empty => skipped
  | .award source multiplied _ value bonusAdd condition action =>
    if c.state.passes condition then
      let r := applyEntry source multiplied value bonusAdd action (h.own, h.inherited) none .chain
        (takeCondition condition c.state)
      ⟨r.state, c.pending ++ r.handed, c.items ++ [⟨h.mode, h.address, h.cause, r.points, r.mult, r.clamped, false⟩]⟩
    else skipped

/-- The chain takes its links from the front of the pending list; awards left after the last are cut (R154, R155). -/
def chain : Nat → Chain → Chain
  | 0, c => c
  | n + 1, c =>
    match c.pending with
    | [] => c
    | h :: rest => chain n (link h { c with pending := rest })

/-! ## Resolutions -/

/-- The current player's score as it stands; 0 where there is no player (R148). -/
def State.currentScore (s : State) : Nat :=
  match s.game.current with
  | none => 0
  | some p => (s.record p).score

/-- The HIT report of a resolution (R157). -/
def hitReport (source : Nat) (stamp : Stamp) (marker : HitState) (walkItems : List WalkItem) (c : Chain) : HitReport where
  source := source
  stamp := stamp
  player := c.state.playerNo
  state := marker
  chainCut := !c.pending.isEmpty
  walk := walkItems
  chain := c.items
  total := (walkItems.map (·.points)).sum + (c.items.map (·.points)).sum
  score := c.state.currentScore

/-- The reports of a resolution stand behind its HIT report, and that behind the reports queued before it (R157). -/
def fileReport (before : List Report) (r : HitReport) (s : State) : State :=
  { s with out := before ++ .hit r :: s.out }

/-- A resolution with no walk (R148). -/
def emptyResolution (h : Hit) (marker : HitState) (s : State) : State :=
  s.report (.hit (hitReport h.source.val h.stamp marker [] ⟨s, [], []⟩))

/-- A resolution in play: the walk and the completion chain (R149, R154). -/
def fullResolution (h : Hit) (s : State) : State :=
  let w := walk (s.source h.source).offset s.snapshot ⟨{ s with out := [] }, [], [], []⟩
  let c := chain chainLimit ⟨w.state, w.pending, []⟩
  fileReport s.out (hitReport h.source.val h.stamp .play w.items c) c.state

/-- One repeat of the front hit is taken and resolved (R147, R148). -/
def resolveHit (s : State) : State :=
  match s.hit.queue with
  | [] => s
  | h :: _ =>
    let s := s.modHit fun u => { u with queue := takeRepeat u.queue }
    if s.playable then
      if s.game.tilted then emptyResolution h .tilted s else fullResolution h s
    else emptyResolution h .outOfPlay s

/-- Awards handed over outside a walk are applied by the chain within the same event, and reported with source 255 (R156). -/
def outsideChain (handed : List Handed) (s : State) : State :=
  if handed.isEmpty then s
  else
    let c := chain chainLimit ⟨{ s with out := [] }, handed, []⟩
    fileReport s.out (hitReport 255 s.clock .play [] c) c.state

end Sys2Proof.Machine
end

