-- ==== Sys2Proof/Machine/Event.lean ====
section
/-! DEFINITION. What surrounds every step of the part: the reports it queued join the report queue (R196, R197), and search
is tested when a device has left PULSING or CONFIRMING (R57). -/

namespace Sys2Proof.Machine

/-- The longest report queue (R196). -/
def reportLimit : Nat := 64

/-- The largest gap count (R197). -/
def gapLimit : Nat := 255

/-- A report joins the report queue with its header, or is dropped at a full one (R196, R197). -/
def queueReport (r : Report) (s : State) : State :=
  if s.link.reports.length < reportLimit then
    s.modLink fun l => { l with reports := l.reports ++ [⟨s.clock, l.gap, r⟩], gap := 0 }
  else (s.modLink fun l => { l with gap := min gapLimit (l.gap + 1) }).notice .reportOverrun

/-- The reports of the event that has been taken join the report queue in their order (R196). -/
def flush (s : State) : State := forEach s.out queueReport { s with out := [] }

/-- A device has left PULSING and CONFIRMING in the event (R57). -/
def someLeft (before s : State) : Bool :=
  (List.finRange 8).any fun d => (before.device d).attempting && !(s.device d).attempting

/-- Search is tested when a device has left PULSING or CONFIRMING (R57). -/
def searchAfter (before s : State) : State := if someLeft before s then testSearch s else s

/-- A step made of events that are taken one after another, each whole (`whole`), with what follows the last: search, owed
decreases, report queue (log 35). -/
def events (f : State → State) (s : State) : State := flush (settleExpiries (searchAfter s (f s)))

/-- A step that is one event, taken whole, with what follows it. -/
def event (f : State → State) (s : State) : State := events (whole f) s

end Sys2Proof.Machine
end

