-- ==== Sys2Proof/Machine/Operands.lean ====
section
/-! DEFINITION. How the payload of a command is read (R182, R183): its fields by their encodings, and the tables, records,
entries and descriptors that the setup commands carry (section 10.9). `none` stands for a field out of range. -/

namespace Sys2Proof.Machine

/-! ## Fields -/

/-- The byte at a place of a payload. -/
def byteAt (p : List Byte) (i : Nat) : Nat := (p.getD i 0).toNat

/-- Two bytes from a place, least significant first. -/
def wordAt (p : List Byte) (i : Nat) : Nat := byteAt p i + 256 * byteAt p (i + 1)

/-- Bits `lo` to `lo + w - 1` of a number. -/
def bitsOf (n lo w : Nat) : Nat := n / 2 ^ lo % 2 ^ w

/-- A number below a bound, as an index. -/
def index (n : Nat) (v : Nat) : Option (Fin n) := if h : v < n then some ⟨v, h⟩ else none

/-- A value within its range. -/
def within (lo hi v : Nat) : Option Nat := if lo ≤ v ∧ v ≤ hi then some v else none

/-- A flag byte holds 0 or 1 (R183). -/
def flag (v : Nat) : Option Bool :=
  match v with
  | 0 => some false
  | 1 => some true
  | _ => none

/-- A two-digit byte of packed BCD (R183). -/
def bcdByte (v : Nat) : Option Nat := if v / 16 ≤ 9 ∧ v % 16 ≤ 9 then some (v / 16 * 10 + v % 16) else none

/-- The decimal value of `n` bytes of packed BCD from a place, most significant first (R183). -/
def bcdAt (p : List Byte) (i : Nat) : Nat → Option Nat
  | 0 => some 0
  | n + 1 =>
    match bcdAt p i n, bcdByte (byteAt p (i + n)) with
    | some v, some d => some (v * 100 + d)
    | _, _ => none

/-! ## Payload lengths (R182 check 2, section 10.4) -/

/-- The payload length of LOAD_AWARDS: 3 and 12 for each entry of its count byte (R182). -/
def loadAwardsLength (p : List Byte) : Bool := 3 ≤ p.length && p.length = 3 + 12 * byteAt p 2

/-! ## Codes of enumerated fields (R195) -/

def roleOf (v : Nat) : Option Role :=
  match v with
  | 0 => some .inactive
  | 1 => some .playfield
  | 2 => some .device
  | 3 => some .start
  | 4 => some .tilt
  | 5 => some .slam
  | _ => none

def kindOf (v : Nat) : Option DeviceKind :=
  match v with
  | 0 => some .unused
  | 1 => some .trough
  | 2 => some .launch
  | 3 => some .hold
  | _ => none

def policyOf (v : Nat) : Option Policy :=
  match v with
  | 0 => some .ignore
  | 1 => some .extend
  | 2 => some .restart
  | _ => none

def counterOf (v : Nat) : Option Counter :=
  match v with
  | 0 => some .none
  | 1 => some .count
  | 2 => some .free
  | _ => none

/-- The report thresholds by their codes (section 10.9). -/
def thresholdOf (v : Nat) : Option Nat :=
  match v with
  | 0 => some 1
  | 1 => some 2
  | 2 => some 4
  | 3 => some 8
  | 4 => some 16
  | _ => none

/-! ## SET_SWITCH (R6): source, role, polarity, class, offset, flag, stuck time -/

/-- What SET_SWITCH stores: the source with its whole entry for a physical source, with offset and report flag alone for a
device or virtual source. -/
inductive SwitchSetting where
  | physical (n : SwitchId) (x : Source)
  | other (x : SourceId) (offset : Nat) (report : Bool)
deriving DecidableEq, Repr

/-- The entry of a physical source (R6). -/
def readSource (p : List Byte) : Option Source := do
  let role ← roleOf (byteAt p 1)
  let inverted ← flag (byteAt p 2)
  let cls ← index 4 (byteAt p 3)
  let offset ← within 0 127 (byteAt p 4)
  let report ← flag (byteAt p 5)
  let stuck ← within 0 60 (byteAt p 6)
  if stuck ≠ 0 ∧ role ≠ .playfield then none
  else some ⟨role, inverted, cls, offset, report, stuck⟩

def readSwitchSetting (p : List Byte) : Option SwitchSetting :=
  match index 72 (byteAt p 0) with
  | some n => (readSource p).map (.physical n)
  | none => do
    let x ← index 96 (byteAt p 0)
    let offset ← within 0 127 (byteAt p 4)
    let report ← flag (byteAt p 5)
    some (.other x offset report)

/-! ## SET_FILTER (R3): class, close time, open time -/

def readFilter (p : List Byte) : Option (Fin 4 × FilterClass) := do
  let c ← index 4 (byteAt p 0)
  let close ← within 1 255 (byteAt p 1)
  let opn ← within 1 255 (byteAt p 2)
  some (c, ⟨close, opn⟩)

/-! ## SET_DEVICE (R18): device, kind, capacity, switches (8 bytes), pulse, confirm, settle and hold time (2 bytes each),
lockable, goal, search-eligible, launch coil, auto-launch -/

/-- The kind is allowed for the device number (R17). -/
def kindAllowed (d : DeviceId) (k : DeviceKind) : Bool :=
  match k with
  | .unused => true
  | .trough => d = 0
  | .launch => d = 1
  | .hold => 2 ≤ d.val

/-- The capacities of a kind (R17). -/
def capacityFits (k : DeviceKind) (c : Nat) : Bool :=
  match k with
  | .unused => c = 0
  | .trough => 1 ≤ c && c ≤ 8
  | .launch => c = 1
  | .hold => 1 ≤ c && c ≤ 6

/-- The numbers of the list, where each names a switch. -/
def switchIds : List Nat → Option (List SwitchId)
  | [] => some []
  | v :: vs =>
    match index 72 v, switchIds vs with
    | some n, some ns => some (n :: ns)
    | _, _ => none

/-- The position switch list: as many switches as the capacity, no switch twice, and 255 behind them (R18, section
10.4). -/
def readSwitchList (capacity : Nat) (bytes : List Nat) : Option (List SwitchId) :=
  match switchIds (bytes.take capacity) with
  | none => none
  | some l => if l.Nodup ∧ l.length = capacity ∧ (bytes.drop capacity).all (· = 255) then some l else none

/-- The fields that belong to HOLD alone (R17). -/
def readHold (p : List Byte) (r : DeviceRecord) : Option DeviceRecord := do
  let hold ← within 0 5000 (wordAt p 16)
  let lockable ← flag (byteAt p 18)
  let goal ← within 0 5 (byteAt p 19)
  let eligible ← flag (byteAt p 20)
  some { r with hold := hold, lockable := lockable, goal := goal, searchEligible := eligible }

/-- The fields that belong to LAUNCH alone (R17); auto-launch needs the launch coil (R18). -/
def readLaunch (p : List Byte) (r : DeviceRecord) : Option DeviceRecord := do
  let coil ← flag (byteAt p 21)
  let auto ← flag (byteAt p 22)
  if auto && !coil then none else some { r with launchCoil := coil, autoLaunch := auto }

/-- The fields that every kind but UNUSED has, over the values of a cold reset (R17, R18). -/
def readCommon (p : List Byte) (k : DeviceKind) : Option DeviceRecord := do
  let capacity := byteAt p 2
  let switches ← readSwitchList capacity ((List.range 8).map fun i => byteAt p (3 + i))
  let pulse ← within 10 250 (byteAt p 11)
  let confirm ← within 300 3000 (wordAt p 12)
  let settle ← within 50 2000 (wordAt p 14)
  some { DeviceRecord.cold with
    kind := k, capacity := capacity, switches := switches, pulse := pulse, confirm := confirm, settle := settle }

/-- The record of a kind; a field that does not belong to it takes its cold reset value (R18). -/
def readRecord (p : List Byte) (k : DeviceKind) : Option DeviceRecord :=
  match k with
  | .unused => some .cold
  | .trough => readCommon p k
  | .launch => (readCommon p k).bind (readLaunch p)
  | .hold => (readCommon p k).bind (readHold p)

def readDevice (p : List Byte) : Option (DeviceId × DeviceRecord) := do
  let d ← index 8 (byteAt p 0)
  let k ← kindOf (byteAt p 1)
  if kindAllowed d k && capacityFits k (byteAt p 2) then (readRecord p k).map fun r => (d, r) else none

/-! ## SET_GAME (R187): N, balls per game, save time, tilt limit, search delay, base page base (2 bytes) and length -/

def readGame (p : List Byte) : Option Settings := do
  let n ← within 1 8 (byteAt p 0)
  let balls ← within 1 10 (byteAt p 1)
  let save ← within 0 30 (byteAt p 2)
  let tilt ← within 1 5 (byteAt p 3)
  let delay ← within 2 60 (byteAt p 4)
  let base ← within 0 1023 (wordAt p 5)
  let length ← within 1 128 (byteAt p 7)
  if base + length ≤ 1024 then some ⟨n, balls, save, tilt, delay, base, length⟩ else none

/-! ## SET_POOL (R175): pool, base and cap (4 bytes each), scope -/

/-- What SET_POOL gives: the pool, its base, its cap, and whether its scope is PLAYER. -/
def readPool (p : List Byte) : Option (Fin 8 × Nat × Nat × Bool) := do
  let j ← index 8 (byteAt p 0)
  let base ← bcdAt p 1 4
  let cap ← bcdAt p 5 4
  let player ← flag (byteAt p 9)
  if base ≤ cap then some (j, base, cap, player) else none

/-! ## SET_THRESHOLD (R168): threshold, value (7 bytes) -/

def readThreshold (p : List Byte) : Option (Fin 3 × Nat) := do
  let n ← within 1 3 (byteAt p 0)
  let k ← index 3 (n - 1)
  let v ← bcdAt p 1 7
  some (k, v)

/-! ## SET_MODE (R107, R194): mode, descriptor (12 bytes) -/

/-- An award address of a descriptor: none where its present bit is 0 (R194). -/
def readAddress (present : Nat) (a : Nat) : Option (Option Nat) :=
  if present = 0 then some none else (within 0 1023 a).map some

/-- The counter award, stored by the counter kind as the completion and the lap award (R194). -/
def readCounterAward (present : Nat) (k : Counter) (word : Nat) : Option (Option Nat × Option Nat) :=
  match k with
  | .none => some (none, none)
  | .count => (readAddress present word).map fun a => (a, none)
  | .free => (readAddress present word).map fun a => (none, a)

/-- The goal of a COUNT mode; 0 for the other kinds (R107). -/
def readGoal (k : Counter) (g : Nat) : Option Nat :=
  match k with
  | .count => within 1 9999 g
  | .none | .free => some 0

/-- A descriptor whose defined flag is 1, from its 12 bytes at a place of the payload (section 10.9, R194). -/
def readDefined (p : List Byte) (o : Nat) : Option Descriptor := do
  let b0 := byteAt p o
  let b1 := byteAt p (o + 1)
  let b2 := byteAt p (o + 2)
  let w5 := wordAt p (o + 5)
  let w7 := wordAt p (o + 7)
  let policy ← policyOf (bitsOf b0 3 2)
  let counter ← counterOf (bitsOf b0 5 2)
  let priority ← within 1 15 (bitsOf b1 0 4)
  let own ← within 1 9 (bitsOf b2 0 4)
  let base := bitsOf b2 6 2 * 256 + byteAt p (o + 3)
  let length ← within 1 128 (byteAt p (o + 4))
  let duration ← within 0 6000 (bitsOf w5 0 13)
  let threshold ← thresholdOf (bitsOf w5 13 3)
  let goal ← readGoal counter (bitsOf w7 0 14)
  let expiry ← readAddress (bitsOf b0 7 1) (bitsOf w7 14 2 * 256 + byteAt p (o + 9))
  -- bits 10 to 15 of the last word lie outside every field (R183)
  let w10 ← within 0 1023 (wordAt p (o + 10))
  let award ← readCounterAward (bitsOf b1 7 1) counter w10
  if base + length ≤ 1024 then
    some
      { defined := true, priority := priority, group := bitsOf b1 4 3, pageBase := base, pageLength := length, own := own,
        depth := bitsOf b2 4 2, duration := duration, policy := policy, counter := counter, goal := goal,
        threshold := threshold, carry := bitsOf b0 1 1 = 1, endWithMultiball := bitsOf b0 2 1 = 1, completion := award.1,
        expiry := expiry, lap := award.2 }
  else none

/-- SET_MODE: with the defined flag 0 the other bytes are not read (R194). -/
def readMode (p : List Byte) : Option (ModeId × Descriptor) := do
  let m ← index 32 (byteAt p 0)
  if bitsOf (byteAt p 1) 0 1 = 0 then some (m, .cold) else (readDefined p 1).map fun d => (m, d)

/-! ## LOAD_AWARDS (R144, R193): start address (2 bytes), count, entries (12 bytes each) -/

/-- The bits of a byte that are read lie inside its fields (R183). -/
def bitsOutside (v field : Nat) : Bool := v % 256 &&& (255 - field) != 0

/-- The source of an AWARD entry, from byte 1; the pool is read for the two pool sources (R193). -/
def readPoints (v : Nat) : Option Points :=
  if bitsOutside v 0x73 then none
  else
    match v % 4 with
    | 0 => some .fixed
    | 1 => (index 8 (bitsOf v 4 3)).map .poolCollect
    | 2 => (index 8 (bitsOf v 4 3)).map .poolAdd
    | _ => none

/-- The condition of an AWARD entry, from byte 8; the variable is read for the two conditions on one (R193). -/
def readCondition (v : Nat) : Option Condition :=
  if bitsOutside v 0xF3 then none
  else
    match v % 4 with
    | 0 => some .none
    | 1 => (index 16 (bitsOf v 4 4)).map .varSet
    | 2 => (index 16 (bitsOf v 4 4)).map .varTake
    | _ => none

/-- The target of an ADVANCE: a mode, or 255 for own (R193). -/
def readTarget (v : Nat) : Option (Option ModeId) := if v = 255 then some none else (index 32 v).map some

/-- The action of an AWARD entry, from bytes 9 to 11; arguments are read as the action needs them (R193). -/
def readAction (v x n : Nat) : Option Action :=
  match v with
  | 0 => some .none
  | 1 => (index 8 x).map .lightLock
  | 2 => (index 32 x).map .startMode
  | 3 => (index 32 x).map .stopMode
  | 4 => do
    let t ← readTarget x
    let n ← within 1 15 n
    some (.advance t n)
  | 5 => some (.startSave x)
  | 6 => some .addBall
  | 7 => some .extraBall
  | 8 => some .bonusMultUp
  | 9 => do
    let v ← index 16 x
    let n ← within 1 255 n
    some (.countVar v n)
  | _ => none

/-- An entry of 12 bytes at a place of the payload: EMPTY where its kind bit is 0 (R144, R193), whatever the other bits of
its first byte (DEDUCED, log 51). -/
def readAward (p : List Byte) (o : Nat) : Option Award :=
  let b0 := byteAt p o
  if bitsOf b0 0 1 = 0 then some .empty
  else if bitsOutside b0 0x07 then none
  else do
    let source ← readPoints (byteAt p (o + 1))
    let value ← bcdAt p (o + 2) 4
    let bonus ← bcdAt p (o + 6) 2
    let condition ← readCondition (byteAt p (o + 8))
    let action ← readAction (byteAt p (o + 9)) (byteAt p (o + 10)) (byteAt p (o + 11))
    some (.award source (bitsOf b0 1 1 = 1) (bitsOf b0 2 1 = 1) value bonus condition action)

/-- `n` entries from a place of the payload. -/
def readAwards (p : List Byte) (o : Nat) : Nat → Option (List Award)
  | 0 => some []
  | n + 1 =>
    match readAward p o, readAwards p (o + 12) n with
    | some e, some es => some (e :: es)
    | _, _ => none

def readLoad (p : List Byte) : Option (Nat × List Award) := do
  let a := wordAt p 0
  let n ← within 1 8 (byteAt p 2)
  if a + n ≤ 1024 then (readAwards p 3 n).map fun es => (a, es) else none

/-! ## Commands on variables (R159, R160): player, variable, values of two bytes -/

/-- A player byte 1 to 4. -/
def playerOf (v : Nat) : Option PlayerId := if v = 0 then none else index 4 (v - 1)

/-- The player and the variable. -/
def readVarName (p : List Byte) : Option (PlayerId × Fin 16) := do
  let q ← playerOf (byteAt p 0)
  let v ← index 16 (byteAt p 1)
  some (q, v)

end Sys2Proof.Machine
end

