-- ==== Sys2Proof/Machine/Link.lean ====
section
/-! DEFINITION. The Link Unit: the receiver, the arrival of a good frame, the taking of a command with its checks and its
reply, and the transmitter (sections 10.1 to 10.3 and 11.1). -/

namespace Sys2Proof.Machine

/-! ## Arrival (R181) -/

/-- The longest command buffer (R181). -/
def commandLimit : Nat := 4

/-- The longest reply queue (R185). -/
def replyLimit : Nat := 4

/-- A reply is queued with its report mark (R185). -/
def queueReply (tag : Byte) (a : Answer) (s : State) : State :=
  s.modLink fun l => { l with replies := l.replies ++ [⟨tag, a, l.reports.length⟩] }

/-- A good frame arrives: it is appended to the command buffer, or refused with BUSY, or discarded with LINE_ERROR where
that refusal has no place (R181). -/
def arrive (c : Command) (s : State) : State :=
  if s.link.commands.length < commandLimit then s.modLink fun l => { l with commands := l.commands ++ [c] }
  else if s.link.replies.length < replyLimit then queueReply c.tag (.refused .busy) s
  else s.notice .lineError

/-! ## The receiver (R178 to R180) -/

/-- What the receiver finds in bytes that follow a sync byte (R179). -/
inductive Found where
  /-- The frame needs more bytes. -/
  | more
  /-- The length is above 240. -/
  | badLength
  /-- The frame is whole: the command it carries, whether its check matches, and the bytes behind it. -/
  | whole (c : Command) (good : Bool) (rest : List Byte)
deriving DecidableEq, Repr

/-- The bytes from the length byte on, read as a frame (R179, section 10.9). -/
def readFrame (r : List Byte) : Found :=
  match r with
  | [] => .more
  | n :: _ =>
    if payloadLimit < n.toNat then .badLength
    else if r.length < n.toNat + 4 then .more
    else
      let body := r.take (n.toNat + 3)
      .whole ⟨r.getD 1 0, r.getD 2 0, (r.drop 3).take n.toNat⟩ (crc8 body == r.getD (n.toNat + 3) 0)
        (r.drop (n.toNat + 4))

def setReceiver (r : Receiver) (s : State) : State := s.modLink fun l => { l with receiver := r }

/-- Bytes scanned from HUNTING, as though they arrived one after another (R179). The first argument bounds the number of
sync bytes met; a run of bytes holds no more of them than its length. -/
def scan : Nat → List Byte → State → State
  | 0, _, s => setReceiver .hunting s
  | n + 1, bytes, s =>
    match bytes.dropWhile (· ≠ syncByte) with
    | [] => setReceiver .hunting s
    | _ :: r =>
      match readFrame r with
      | .more => setReceiver (.inFrame r s.now) s
      | .badLength => scan n r (s.notice .lineError)
      | .whole c true rest => scan n rest (arrive c s)
      | .whole _ false _ => scan n r (s.notice .lineError)

/-- Bytes scanned again after a discarded frame (R179). -/
def rescan (bytes : List Byte) (s : State) : State := scan (bytes.length + 1) bytes s

/-- A frame received whole is checked: a good one arrives, a bad one is discarded with LINE_ERROR and its bytes are scanned
again (R179). -/
def checkFrame (s : State) : State :=
  match s.link.receiver with
  | .hunting => s
  | .inFrame taken _ =>
    match readFrame taken with
    | .more => s
    | .badLength => rescan taken (s.notice .lineError)
    | .whole c true rest => rescan rest (arrive c s)
    | .whole _ false _ => rescan taken (s.notice .lineError)

/-- One byte reaches the receiver (R179). A length above 240 ends the frame at once. -/
def takeByte (b : Byte) (s : State) : State :=
  match s.link.receiver with
  | .hunting => if b = syncByte then setReceiver (.inFrame [] s.now) s else s
  | .inFrame taken _ =>
    match readFrame (taken ++ [b]) with
    | .badLength => rescan (taken ++ [b]) (s.notice .lineError)
    | .more | .whole _ _ _ => setReceiver (.inFrame (taken ++ [b]) s.now) s

/-- The frame that the receiver holds is whole. -/
def State.frameWaits (s : State) : Bool :=
  match s.link.receiver with
  | .hunting => false
  | .inFrame taken _ =>
    match readFrame taken with
    | .whole _ _ _ => true
    | _ => false

/-- A byte error discards a frame in progress and sets LINE_ERROR (R178). -/
def byteFault (s : State) : State := setReceiver .hunting (s.notice .lineError)

/-- More than 20 ms have passed since the last byte of a frame that needs more bytes (R180, log 28). -/
def State.frameLate (s : State) : Bool :=
  match s.link.receiver with
  | .hunting => false
  | .inFrame _ t => t + byteGapMs < s.now && !s.frameWaits

/-! ## Taking a command (R182) -/

/-- What carrying out a command gives: the state, and the answer for its reply. -/
abbrev Carry := State → State × Answer

/-- A command refused at a check: no state changes (R182). -/
def refuse (c : Refuse) : Carry := fun s => (s, .refused c)

/-- A command carried out as one event, with its answer (R182). The answer is what the owning rule names, from the state
that the command leaves. -/
def carryEvent (f : State → State × Answer) : Carry := fun s => (event (fun s => (f s).1) s, (f s).2)

/-- A READ command: the answer from the state, and no change. -/
def carryRead (f : State → List Byte) : Carry := fun s => (s, .done (f s))

/-- Check 2: the length fits the kind (R182). -/
def checkLength (n : Nat) (p : List Byte) (f : Carry) : Carry := if p.length = n then f else refuse .badLength

/-- The front command leaves the buffer and is carried out, and its reply is queued (R182, R185). -/
def takeCommand (tag : Byte) (f : Carry) (s : State) : State :=
  let r := f (s.modLink fun l => { l with commands := l.commands.tail })
  queueReply tag r.2 r.1

/-- The row of a host command: where its frame is not at the front of the buffer it arrives first, and it is taken when it
is at the front and the reply queue has a free place (R181, R182, log 4). -/
def hostRow (kind tag : Byte) (p : List Byte) (f : Carry) (s : State) : State :=
  let c : Command := ⟨kind, tag, p⟩
  let s := if s.link.commands.head? = some c then s else arrive c s
  if s.link.commands.head? = some c ∧ s.link.replies.length < replyLimit then takeCommand tag f s else s

/-! ## The transmitter (R198) -/

/-- The marks of the replies fall by 1 when a report leaves the report queue (R198). -/
def lowerMark (r : Reply) : Reply := { r with mark := r.mark - 1 }

/-- The transmitter sends the oldest report (R196, R198). -/
def sendReport (s : State) : State :=
  match s.link.reports with
  | [] => s
  | q :: rest => s.modLink fun l => { l with reports := rest, replies := l.replies.map lowerMark, txd := q.frame }

/-- The transmitter chooses and sends the next frame (R198). -/
def sendNext (s : State) : State :=
  match s.link.replies with
  | [] => sendReport s
  | r :: rest =>
    if r.mark = 0 then s.modLink fun l => { l with replies := rest, txd := r.frame } else sendReport s

/-! ## RESET_N -/

/-- While RESET_N is low the part is held, and nothing but its return happens (R191). -/
def unlessHeld (f : State → State) (s : State) : State := if s.resetHeld then s else f s

end Sys2Proof.Machine
end

