-- ==== Sys2Proof/Machine/Occasions.lean ====
section
/-! DEFINITION. The events of the part that come of time, of the switches and of the coil supply: each takes place when its
occasion is there, and changes nothing otherwise (log 2). -/

namespace Sys2Proof.Machine

/-- An event whose occasion is there is taken whole; otherwise nothing changes (log 2). -/
def occur (due : Bool) (f : State → State) (s : State) : State := if due then event f s else s

/-- The same for an occasion that brings several events, each taken whole (R20, R37). -/
def occurEach (due : Bool) (f : State → State) (s : State) : State := if due then events f s else s

/-- A deadline has been reached. -/
def reached (now : Nat) (t : Option Nat) : Bool := t.any (· ≤ now)

/-! ## Switches (R2, R7 to R11) -/

def State.switch (s : State) (n : SwitchId) : Switch := s.scan.switches[n]

def State.modSwitch (n : SwitchId) (f : Switch → Switch) (s : State) : State :=
  s.modScan fun u => { u with switches := upd u.switches n f }

/-- The deadline of a stuck timer that starts now (R10). -/
def stuckDeadline (now stuckTime : Nat) : Option Nat := if stuckTime = 0 then none else some (now + 1000 * stuckTime)

/-- An accepted PLAYFIELD closure: activity, the stuck timer, the hit queue (R8). -/
def playfieldClosure (n : SwitchId) (s : State) : State :=
  let s := (activity s).modSwitch n fun w =>
    { w with stuckAt := stuckDeadline s.now (s.source (switchSource n)).stuckTime }
  if s.running && s.playable then offerClosure (switchSource n) s else s

/-- An accepted PLAYFIELD opening: the stuck timer is cancelled, and STUCK ends (R7, R11). -/
def playfieldOpening (n : SwitchId) (s : State) : State :=
  s.modSwitch n fun w => { w with stuck := false, stuckAt := none }

/-- An accepted change goes where the role of its source sends it (R7). -/
def route (n : SwitchId) (closed : Bool) (s : State) : State :=
  match (s.source (switchSource n)).role, closed with
  | .inactive, _ => s
  | .playfield, true => playfieldClosure n s
  | .playfield, false => playfieldOpening n s
  | .device, c => routeToDevices n c s
  | .start, true => s.report .startPressed
  | .tilt, true => tiltClosure s
  | .slam, true => slamClosure s
  | .start, false | .tilt, false | .slam, false => s

/-- The change of a switch is accepted and routed, with its SWITCH_CHANGE report behind (R2, R7, R9, R11, log 7). -/
def acceptChange (n : SwitchId) (s : State) : State :=
  let x := s.source (switchSource n)
  let closed := !(s.switch n).filtered
  let unstuck := (s.switch n).stuck && x.role == .playfield && !closed
  let s := route n closed (s.modSwitch n fun w => { w with filtered := closed, count := 0, qualified := false })
  if x.reportFlag || unstuck then s.report (.switchChange n.val closed false) else s

def acceptedChange (n : SwitchId) (s : State) : State := occur (s.switch n).qualified (acceptChange n) s

/-- A switch becomes STUCK (R10). -/
def becomeStuck (n : SwitchId) (s : State) : State :=
  ((s.modSwitch n fun w => { w with stuck := true, stuckAt := none }).notice .switchStuck).report
    (.switchChange n.val true true)

def stuckExpiry (n : SwitchId) (s : State) : State := occur (reached s.now (s.switch n).stuckAt) (becomeStuck n) s

/-! ## Devices -/

def settleExpiry (d : DeviceId) (s : State) : State := occurEach (reached s.now (s.device d).settleAt) (settle d) s

def holdExpiry (d : DeviceId) (s : State) : State := occur ((s.device d).held.any (Held.due s.now)) (expireHold d) s

/-- The pulse time of a device has run (R29). -/
def pulseEnd (d : DeviceId) (s : State) : State :=
  match (s.device d).eject with
  | .pulsing e x => occur (decide (e ≤ s.now)) (endPulse d x) s
  | _ => s

/-- The confirm window of a device has ended (R30). -/
def windowEnd (d : DeviceId) (s : State) : State :=
  match (s.device d).eject with
  | .confirming e x => occurEach (reached s.now e) (endWindow d x) s
  | _ => s

/-- The pause after a failed attempt has ended (R33). -/
def recoveryEnd (d : DeviceId) (s : State) : State :=
  match (s.device d).eject with
  | .recovering e => occur (decide (e ≤ s.now)) (testReadiness d) s
  | _ => s

/-- The pause between ejects has ended (R32). -/
def spacingEnd (d : DeviceId) (s : State) : State :=
  match (s.device d).eject with
  | .spacing e => occur (decide (e ≤ s.now)) (testReadiness d) s
  | _ => s

def launchConfirmed (s : State) : State := occur (reached s.now s.dev.launchAt) confirmLaunch s

/-- The auto-launch delay expires (R42). -/
def autoLaunch (s : State) : State :=
  let s := s.modDev fun u => { u with autoAt := none }
  if s.laneReady ∧ s.game.state = .inPlay then placeRequest 1 .launch 1 s else s

def autoLaunchEnd (s : State) : State := occur (reached s.now s.dev.autoAt) autoLaunch s

/-! ## Coil power (R35) -/

def coilAbsent (s : State) : State := occurEach (powerSamples ≤ s.scan.lowRun && s.scan.power != .absent) powerLost s

def coilPresent (s : State) : State := occur (powerSamples ≤ s.scan.highRun && s.scan.power != .present) powerBack s

/-! ## Search, save, modes, hits -/

def quietReached (s : State) : State := occur s.searchDue testSearch s

/-- The step timer expires (R58). -/
def searchStepEnd (s : State) : State :=
  match s.track.search with
  | .idle => s
  | .searching _ _ t => occur (decide (t ≤ s.now)) stepSearch s

/-- The remaining save time has reached 0 (R80). -/
def saveEnd (s : State) : State := occur (s.game.save == .counting && s.game.saveLeft == 0) expireSave s

/-- The expiry of a frame, with the award it hands over (R132, R139, R156). -/
def expireMode (f : Frame) (s : State) : State :=
  let r := expireFrame f s
  outsideChain r.2 r.1

/-- The decrease that a frame owes is taken (R130): its expiry, or where its time has been set anew one millisecond of it
(log 20). -/
def takeDecrease (f : Frame) (s : State) : State :=
  if f.ends then expireMode f s else modFrame f.mode Frame.decrease s

def modeEnd (m : ModeId) (s : State) : State :=
  match s.frame m with
  | none => s
  | some f => occur (f.expiring && s.timersRun) (takeDecrease f) s

def resolveNext (s : State) : State := occur (s.running && !s.hit.queue.isEmpty) resolveHit s

/-! ## The receiver -/

def frameDone (s : State) : State := if s.frameWaits then checkFrame s else s

def frameTimeout (s : State) : State := if s.frameLate then byteFault s else s

/-! ## The tick -/

/-- What a millisecond leaves no room to wait for: every event still due at its end is taken, in one fixed order (log 3). -/
def takeOverdue (s : State) : State :=
  let s := forEach (List.finRange 72) acceptedChange s
  let s := frameTimeout (frameDone (coilPresent (coilAbsent s)))
  let s := forEach (List.finRange 8) pulseEnd s
  let s := forEach (List.finRange 8) windowEnd s
  let s := forEach (List.finRange 8) recoveryEnd s
  let s := forEach (List.finRange 8) spacingEnd s
  let s := autoLaunchEnd (launchConfirmed s)
  let s := forEach (List.finRange 8) settleExpiry s
  let s := forEach (List.finRange 8) (fun d => times 8 (holdExpiry d)) s
  let s := forEach (List.finRange 72) stuckExpiry s
  let s := saveEnd (quietReached (searchStepEnd s))
  forEach (List.finRange 32) modeEnd s

/-- The sensed state of a switch: its raw input with the polarity applied (R1). -/
def sensed (raw : BitVec 72) (n : SwitchId) (inverted : Bool) : Bool := xor (raw.getLsbD n.val) inverted

/-- One sample at a filter (R2): the count, and whether it has reached the required time. -/
def Switch.sample (closed : Bool) (required : Nat) (w : Switch) : Switch :=
  if closed = w.filtered then { w with count := 0, qualified := false }
  else { w with count := min 255 (w.count + 1), qualified := required ≤ w.count + 1 }

/-- The time that a change of a switch must last: the close time of its class while the filtered state is open, the open
time while it is closed (R2). -/
def FilterClass.required (c : FilterClass) (filtered : Bool) : Nat := if filtered then c.openTime else c.closeTime

/-- A switch takes its filtered state from its first sample, under the reset polarity (R4). A stuck timer that a SET_SWITCH
before the sample has started goes on only while the switch is closed (R10). -/
def Switch.first (closed : Bool) (w : Switch) : Switch :=
  { w with filtered := closed, count := 0, qualified := false, stuckAt := if closed then w.stuckAt else none }

/-- The sample of every switch (R1, R2); the first after a cold reset gives the filtered states (R4). It does so under the
reset polarity also for a switch that a SET_SWITCH has set up before it, whose filtered state by R6 it replaces (log 5). -/
def sampleSwitches (raw : BitVec 72) (u : Scanner) : Scanner :=
  if u.sampled then
    { u with
      raw := raw
      switches := updAll u.switches fun n w =>
        let x := u.sources[switchSource n]
        w.sample (sensed raw n x.inverted) (u.classes[x.cls].required w.filtered) }
  else
    { u with
      sampled := true
      raw := raw
      switches := updAll u.switches fun n w =>
        w.first (sensed raw n false) }

/-- The sample of COIL_PWR (R35). -/
def samplePower (high : Bool) (u : Scanner) : Scanner :=
  if high then { u with highRun := min powerSamples (u.highRun + 1), lowRun := 0 }
  else { u with highRun := 0, lowRun := min powerSamples (u.lowRun + 1) }

/-- The millisecond's decrease of the mode timers, while they run (R130). -/
def tickModes (s : State) : State :=
  if s.timersRun then s.modMode fun u => { u with stack := u.stack.map Frame.tick } else s

/-- The millisecond's decrease of a COUNTING save (R80). -/
def tickSave (g : Game) : Game := if g.save = .counting then { g with saveLeft := g.saveLeft - 1 } else g

/-- One millisecond passes (R1, R35, R80, R130). -/
def tick (raw : BitVec 72) (high : Bool) (s : State) : State :=
  let s := takeOverdue s
  let s := { s with now := s.now + 1 }
  tickModes ((s.modScan fun u => samplePower high (sampleSwitches raw u)).modGame tickSave)

end Sys2Proof.Machine
end

