-- ==== Sys2Proof/Machine/Setup.lean ====
section
/-! DEFINITION. The setup commands: what SET_SWITCH to LOAD_AWARDS store, RUN with its four checks and the census it builds,
and RESTART (R3, R6, R18, R107, R144, R168, R175, R187 to R190). -/

namespace Sys2Proof.Machine

/-! ## Checks that commands share (R182 check 3, R186) -/

/-- A command allowed in SETUP alone. -/
def inSetup (f : Carry) : Carry := fun s => if s.running then refuse .wrongState s else f s

/-- A command allowed in RUNNING alone. -/
def inRunning (f : Carry) : Carry := fun s => if s.running then f s else refuse .wrongState s

/-- A payload whose fields are in range, or BAD_VALUE (R183). -/
def withFields {α : Type} (r : Option α) (f : α → Carry) : Carry :=
  match r with
  | none => refuse .badValue
  | some a => f a

/-- A refusal where a condition on the state holds. -/
def refuseWhen (c : Refuse) (cond : State → Bool) (f : Carry) : Carry := fun s => if cond s then refuse c s else f s

/-- A command without a result, carried out as one event. -/
def carryDone (f : State → State) : Carry := carryEvent fun s => (f s, .done [])

/-! ## Tables and settings -/

/-- A physical source is set, and its switch is set up afresh (R6). -/
def setPhysical (n : SwitchId) (x : Source) (s : State) : State :=
  let closed := sensed s.scan.raw n x.inverted
  let at' := if x.role = .playfield ∧ closed then stuckDeadline s.now x.stuckTime else none
  (s.modScan fun u => { u with sources := upd u.sources (switchSource n) fun _ => x }).modSwitch n fun _ =>
    ⟨closed, 0, false, false, at'⟩

/-- A device or virtual source takes its rule offset and report flag (R6). -/
def setOther (x : SourceId) (offset : Nat) (report : Bool) (s : State) : State :=
  s.modScan fun u =>
    { u with sources := upd u.sources x fun y => { y with offset := offset, reportFlag := report } }

/-- A taken SET_SWITCH (R6). -/
def storeSwitch (x : SwitchSetting) (s : State) : State :=
  match x with
  | .physical n y => setPhysical n y s
  | .other n offset report => setOther n offset report s

/-- A taken SET_FILTER (R3). -/
def storeFilter (c : Fin 4) (x : FilterClass) (s : State) : State :=
  s.modScan fun u => { u with classes := upd u.classes c fun _ => x }

/-- A taken SET_DEVICE: the record is replaced, and the settled count is taken afresh (R18, R19). -/
def storeDevice (d : DeviceId) (r : DeviceRecord) (s : State) : State :=
  s.modDevice d fun v =>
    { v.withSettled 0 with
      record := r
      copies := r.switches.map fun n => (s.switch n).filtered
      settleAt := if r.kind = .unused then none else some (s.now + r.settle) }

/-- A taken SET_GAME (R187). -/
def storeGame (x : Settings) (s : State) : State := { s with settings := x }

/-- A taken SET_MODE (R107). -/
def storeMode (m : ModeId) (d : Descriptor) (s : State) : State :=
  s.modMode fun u => { u with descriptors := upd u.descriptors m fun _ => d }

/-- A value clamped into a range. -/
def clampInto (lo hi v : Nat) : Nat := if v < lo then lo else if hi < v then hi else v

/-- A pool has PLAYER scope. -/
def PoolValue.isPlayer : PoolValue → Bool
  | .shared _ => false
  | .player _ => true

/-- Every value of a pool of a scope at one amount. -/
def PoolValue.all (player : Bool) (v : Nat) : PoolValue := if player then .player (Vector.replicate 4 v) else .shared v

/-- The pool after a taken SET_POOL (R175). -/
def Pool.set (running : Bool) (base cap : Nat) (player : Bool) (q : Pool) : Pool :=
  if running && q.value.isPlayer == player then
    ({ q with base := base, cap := cap }).mapValues (clampInto base cap)
  else ⟨base, cap, PoolValue.all player base⟩

/-- A taken SET_POOL, with the pool's values after it (R175). -/
def storePool (j : Fin 8) (base cap : Nat) (player : Bool) (s : State) : State × Answer :=
  let s := s.modPool j (Pool.set s.running base cap player)
  (s, .done (counted valueBytes (s.pool j).value.list))

/-- A taken SET_THRESHOLD (R168). -/
def storeThreshold (k : Fin 3) (v : Nat) (s : State) : State :=
  s.modScore fun u => { u with thresholds := upd u.thresholds k fun _ => v }

/-- A taken LOAD_AWARDS, with the number of entries written (R144). -/
def storeAwards (a : Nat) (es : List Award) (s : State) : State × Answer :=
  (s.modHit fun u => { u with awards := awardWrite u.awards a es }, .done [byte es.length])

/-! ## RUN (R45, R47, R188, R189) -/

/-- The devices that a RUN puts in service: those of kind TROUGH, LAUNCH or HOLD. -/
def Device.used (v : Device) : Bool := v.record.kind != .unused

/-- The located count (R47). -/
def State.located (s : State) : Nat := ((s.dev.devices.toList.filter Device.used).map (·.settled)).sum

/-- Check 1: the first device that fails (R188). -/
def runCheck1 (s : State) : Option Nat :=
  if (s.device 0).record.kind ≠ .trough then some 0
  else if (s.device 1).record.kind ≠ .launch then some 1
  else none

/-- The number of devices that name a switch. -/
def State.namedBy (s : State) (n : SwitchId) : Nat := s.dev.devices.toList.countP fun v => v.used && v.record.switches.contains n

/-- A switch fails check 2: it is named by a device without role DEVICE, or has that role without being named by exactly one
(R188). -/
def State.switchFails (s : State) (n : SwitchId) : Bool :=
  if (s.source (switchSource n)).role = .device then s.namedBy n != 1 else s.namedBy n != 0

/-- Check 2: the lowest switch that fails (R188). -/
def runCheck2 (s : State) : Option Nat := ((List.finRange 72).find? s.switchFails).map (·.val)

/-- Check 3: the lowest lockable HOLD device without a goal of 2 to 5 (R188). -/
def runCheck3 (s : State) : Option Nat :=
  (holdDevices.find? fun d =>
    (s.device d).lockable && !(2 ≤ (s.device d).record.goal && (s.device d).record.goal ≤ 5)).map (·.val)

/-- Check 4: the located count is at most N (R47, R188). -/
def runCheck4 (s : State) : Option Nat := if s.located ≤ s.settings.installed then none else some s.located

/-- The first check of RUN that fails, with its item (R188). -/
def runFailure (s : State) : Option (Nat × Nat) :=
  match runCheck1 s, runCheck2 s, runCheck3 s, runCheck4 s with
  | some i, _, _, _ => some (1, i)
  | none, some i, _, _ => some (2, i)
  | none, none, some i, _ => some (3, i)
  | none, none, none, some i => some (4, i)
  | none, none, none, none => none

/-- A device as RUN builds it from its settled count (R45). -/
def Device.build (now : Stamp) (d : DeviceId) (v : Device) : Device :=
  if v.used then
    { v with
      held := List.replicate v.settled ⟨if d.val < 2 then .spare else .releasing, now, none⟩
      queue := if 2 ≤ d.val ∧ v.settled ≠ 0 then [⟨.release, v.settled⟩] else []
      eject := .idle
      attempts := 0
      suspect := false }
  else v

/-- The census that RUN builds (R45, R47). -/
def buildCensus (s : State) : State :=
  (s.modDev fun u => { u with devices := updAll u.devices (Device.build s.clock) }).modTrack fun t =>
    { t with free := 0, missing := s.settings.installed - s.located, search := .idle }

/-- The readiness test of every device in service; the arbiter then grants by device number (R28, R45). -/
def testAll (s : State) : State :=
  arbitrate (forEach (List.finRange 8) (fun d s => if (s.device d).eject = .off then s else readiness d s) s)

/-- A RUN whose checks pass (R189). -/
def runPart (s : State) : State × Answer :=
  let located := s.located
  let s := testAll (buildCensus s)
  let s := s.modLink fun l => { l with state := .running }
  let s := if 1 ≤ s.track.missing then s.notice .ballMissing else s
  (s, .done [byte located, byte s.track.missing])

/-- RUN in SETUP (R188, R189). -/
def checkedRun : Carry := fun s =>
  match runFailure s with
  | some (check, item) => (s, .runCheck check item)
  | none => carryEvent runPart s

/-! ## RESTART (R190) -/

/-- A device after a RESTART: its record, its copies, its settled count and its settle timer are kept (R44). -/
def Device.restart (v : Device) : Device :=
  { v with held := [], queue := [], eject := .off, attempts := 0, suspect := false }

/-- The Link Unit after a RESTART, but for the notices (R190 steps 4 to 6). -/
def LinkUnit.restart (l : LinkUnit) : LinkUnit :=
  { l with
    state := .setup, commands := [], replies := l.replies.map fun r => { r with mark := 0 }, reports := [], gap := 0 }

/-- RESTART, but for the notices: every block returns to SETUP with its configuration kept (R190). -/
def clearPart (s : State) : State :=
  { s with
    dev := ⟨updAll s.dev.devices fun _ => Device.restart, none, none, .none, false⟩
    track := { s.track with free := 0, missing := 0, search := .idle }
    game := .cold
    lock := .cold
    mode := { s.mode with stack := [], carried := Vector.replicate 4 [], serial := 0 }
    hit := { s.hit with queue := [], vars := Vector.replicate 4 (Vector.replicate 16 0) }
    score := { s.score with pools := updAll s.score.pools fun _ => Pool.toBase }
    link := s.link.restart
    out := [] }

/-- RESTART: the notices are evaluated again in the part that has returned to SETUP (R190, R199). -/
def restartPart (s : State) : State :=
  let s := clearPart s
  s.modLink fun l => { l with notices := reevaluatedNotices l.notices s.conditions }

/-- RESTART with the number of commands removed from behind it (R190). -/
def countedRestart : Carry := fun s => (restartPart s, .done [byte s.link.commands.length])

end Sys2Proof.Machine
end

