-- ==== Sys2Proof/Machine/Play.lean ====
section
/-! DEFINITION. What the game commands do (R15, R34, R43, R66, R72, R74, R77, R81, R88, R100, R117, R120, R135, R162) and
what the variable and notice commands do (R159, R160, R200, R201). -/

namespace Sys2Proof.Machine

def State.noGame (s : State) : Bool := s.game.state == .noGame

/-! ## START_GAME, ADD_PLAYER, ADVANCE_BALL, END_GAME -/

/-- What START_GAME clears at every block (R65, R66 step 1, R110). -/
def clearGame (s : State) : State :=
  let s := s.modGame fun g => { g with records := Vector.replicate 4 .cold }
  let s := s.modHit fun u => { u with vars := Vector.replicate 4 (Vector.replicate 16 0) }
  let s := s.modLock fun _ => .cold
  let s := s.modMode fun u => { u with carried := Vector.replicate 4 [], serial := 0 }
  s.modScore fun u => { u with pools := updAll u.pools fun _ => Pool.toBase }

/-- A taken START_GAME (R66). -/
def startGame (players : Nat) (s : State) : State :=
  let s := (clearGame s).modGame fun g => { g with players := players, current := some 0, ball := 1 }
  let s := releaseHeld (· != .releasing) s
  ballStart false (s.report (.gameStarted players))

/-- The checks of START_GAME in their order (R66). -/
def checkedStart (players : Nat) : Carry :=
  inRunning <| refuseWhen .wrongState State.gameInProgress <|
    withFields (within 1 4 players) fun n =>
      refuseWhen .noBall (fun s => (s.device 0).tagged .spare == 0) <| carryDone (startGame n)

/-- ADD_PLAYER is not allowed now (R74). -/
def State.noRoomForPlayer (s : State) : Bool := s.noGame || 2 ≤ s.game.ball || 4 ≤ s.game.players

/-- A taken ADD_PLAYER (R74). -/
def addPlayer (s : State) : State × Answer :=
  let n := s.game.players + 1
  ((s.modGame fun g => { g with players := n }).report (.playerAdded n n), .done [byte n])

/-- The next player and ball number (R72 step 2). -/
def nextTurn (players : Nat) (p : PlayerId) (ball : Nat) : PlayerId × Nat :=
  if h : p.val + 1 < players ∧ p.val + 1 < 4 then (⟨p.val + 1, h.2⟩, ball) else (0, ball + 1)

/-- The result of ADVANCE_BALL (R72). -/
def advanceResult (outcome : Byte) (s : State) : State × Answer :=
  (s, .done [outcome, byte s.playerNo, byte s.game.ball])

/-- A taken ADVANCE_BALL (R72). -/
def advanceBall (s : State) : State × Answer :=
  match s.game.current with
  | none => (s, .done [2, 0, 0])
  | some p =>
    if 1 ≤ (s.record p).extraBalls then
      advanceResult 0 (ballStart true (s.modRecord p fun r => { r with extraBalls := r.extraBalls - 1 }))
    else
      let t := nextTurn s.game.players p s.game.ball
      let s := s.modGame fun g => { g with current := some t.1, ball := t.2 }
      if t.2 ≤ s.settings.ballsPerGame then advanceResult 1 (ballStart false s)
      else (gameEnd s, .done [2, 0, 0])

/-! ## Multiplier, save, locks, added balls -/

/-- A taken SET_PLAYFIELD_MULT (R162). -/
def setFieldMult (v : Nat) (s : State) : State × Answer :=
  let m := clampInto 1 9 v
  (s.modCurrent fun r => { r with fieldMult := m }, .done [byte m, flagByte (m != v)])

/-- A taken START_SAVE (R81). -/
def commandSave (v : Nat) (s : State) : State × Answer :=
  let s := startSave v s
  (s, .done (s.game.save.code :: le16 s.game.saveLeft))

/-- A taken LIGHT_LOCK (R88). -/
def commandLight (d : DeviceId) (s : State) : State × Answer :=
  match s.game.current with
  | none => (s, .done [0, 0, 1])
  | some p =>
    let r := lightLockFor p d s
    (r.1, .done [byte (r.1.lockAt p d).lit, byte (r.1.lockAt p d).made, flagByte r.2])

/-- A taken ADD_BALL (R100). -/
def commandAddBall (s : State) : State × Answer :=
  if s.addBallWorks then ((addBall s).1, .done [byte (addBall s).2]) else (s, .done [0])

/-! ## Modes -/

/-- The result of START_MODE (R117): serial, position and remaining time for the outcomes that carry them, 0 for the others
(R195). -/
def startResult (m : ModeId) (o : StartOutcome) (s : State) : List Byte :=
  match o, s.frame m with
  | .pushed, some f | .extended, some f | .restarted, some f =>
    o.code :: le16 f.serial ++ byte (s.mode.stack.findIdx (·.mode = m) + 1) :: timeBytes f.remaining
  | _, _ => o.code :: le16 0 ++ 0 :: le32 0

/-- A taken START_MODE (R117). -/
def commandStart (m : ModeId) (s : State) : State × Answer :=
  let r := startMode m .command s
  (r.1, .done (startResult m r.2 r.1))

/-- A carried frame of a mode is stopped, or nothing is found (R120). -/
def stopOnList (m : ModeId) (p : PlayerId) (s : State) : State × Answer :=
  match (s.mode.carried[p]).find? (·.mode = m) with
  | none => (s, .done [1, 0])
  | some c => (stopCarried m p c s, .done [0, 1])

/-- A taken STOP_MODE naming the current player (R120). -/
def stopCurrent (m : ModeId) (s : State) : State × Answer :=
  match s.frame m, s.game.current with
  | some f, _ => (endFrame .stopped f s, .done [0, 0])
  | none, none => (s, .done [1, 0])
  | none, some p => stopOnList m p s

/-- A taken STOP_MODE (R120); the player byte 0 stands for the current player. -/
def commandStop (m : ModeId) (player : Nat) (s : State) : State × Answer :=
  match playerOf player with
  | none => stopCurrent m s
  | some p => if s.game.current = some p then stopCurrent m s else stopOnList m p s

/-- The result of ADVANCE_MODE (R135). -/
def Advanced.result : Advanced → List Byte
  | .advanced c l => 0 :: le16 c ++ [byte l]
  | .completed => 1 :: le16 0 ++ [0]
  | .notRunning => 2 :: le16 0 ++ [0]

/-- A taken ADVANCE_MODE, with the chain of the award it hands over (R135, R156). -/
def commandAdvance (m : ModeId) (n : Nat) (s : State) : State × Answer :=
  let r := advanceMode m n s
  (outsideChain r.2.2 r.1, .done r.2.1.result)

/-! ## HIT, RETRY_DEVICE, LAUNCH_BALL -/

/-- A virtual source byte, 80 to 95 (R15). -/
def virtualSource (v : Nat) : Option SourceId := if v < 80 then none else index 96 v

/-- A taken HIT, with the number of entries waiting (R15). -/
def commandHit (x : SourceId) (s : State) : State × Answer :=
  let s := appendHit x s
  (s, .done [byte s.hit.queue.length])

/-- A taken RETRY_DEVICE (R34). -/
def retryDevice (d : DeviceId) (s : State) : State :=
  let s := s.modDevice d fun v => { v with attempts := 0, eject := .idle }
  testReadiness d (s.report (.unjammed d .retry))

/-- A taken LAUNCH_BALL (R43). -/
def commandLaunch (s : State) : State := if s.playable then placeRequest 1 .launch 1 s else s

/-! ## Variables (R159, R160) -/

/-- A taken WRITE_VAR, with the value before (R159). -/
def writeVar (p : PlayerId) (v : Fin 16) (x : Nat) (s : State) : State × Answer :=
  (s.modVar p v fun _ => x, .done (le16 (s.var p v)))

/-- A taken SWAP_VAR, with the swapped marker and the value before (R160). -/
def swapVar (p : PlayerId) (v : Fin 16) (expected x : Nat) (s : State) : State × Answer :=
  (if s.var p v = expected then s.modVar p v (fun _ => x) else s,
    .done (flagByte (s.var p v == expected) :: le16 (s.var p v)))

/-! ## Notices (R200, R201) -/

/-- A taken CLEAR_NOTICES, with the flags after (R200). -/
def clearNotices (named : Byte) (s : State) : State × Answer :=
  let s := s.modLink fun l => { l with notices := clearedNotices l.notices s.conditions named }
  (s, .done [s.link.notices])

/-- A taken SET_NOTICE_MASK, with the new mask (R201). -/
def setMask (mask : Byte) (s : State) : State × Answer :=
  (s.modLink fun l => { l with mask := mask }, .done [mask])

end Sys2Proof.Machine
end

