-- ==== Sys2Proof/Machine/EventRows.lean ====
section
/-! DEFINITION. The meanings of the rows that are events of the part: reset, switches, devices, coil power, search, ball
save, modes, hits, the link's events and the millisecond tick. Each answers a next state on every state; while RESET_N is
low only COLD_RESET changes anything (R191). -/

namespace Sys2Proof.Machine

/-- The outcome of a step of the PM62. -/
abbrev Result := Host.Outcome State Fault Refusal

/-- The answer of an event row: a change of the state, withheld while RESET_N is low (R191). -/
def row (f : State → State) (s : State) : Result := .next (unlessHeld f s)

/-! ## Reset -/

/-- COLD_RESET (R191): the state right after a cold reset; the commands that wait stay waiting (log 29). -/
def execColdReset (s : State) : Result := .next { State.reset with pending := s.pending }

/-- RESET_HOLD (R191): RESET_N is low; a frame being sent is cut short. -/
def execResetHold (s : State) : Result :=
  .next ({ s with resetHeld := true }.modLink fun l => { l with txd := [] })

/-! ## Switches -/

/-- ACCEPTED_CHANGE (R2, R7). -/
def execAcceptedChange (n : SwitchId) (s : State) : Result := row (acceptedChange n) s

/-- STUCK_TIMER_EXPIRY (R10). -/
def execStuckTimerExpiry (n : SwitchId) (s : State) : Result := row (stuckExpiry n) s

/-! ## Devices -/

/-- SETTLE_TIMER_EXPIRY (R19, R20). -/
def execSettleTimerExpiry (d : DeviceId) (s : State) : Result := row (settleExpiry d) s

/-- HOLD_TIMER_EXPIRY (R24). -/
def execHoldTimerExpiry (d : DeviceId) (s : State) : Result := row (holdExpiry d) s

/-- PULSE_END (R29, R31). -/
def execPulseEnd (d : DeviceId) (s : State) : Result := row (pulseEnd d) s

/-- CONFIRM_WINDOW_END (R30, R36, R40). -/
def execConfirmWindowEnd (d : DeviceId) (s : State) : Result := row (windowEnd d) s

/-- RECOVERY_END (R33). -/
def execRecoveryEnd (d : DeviceId) (s : State) : Result := row (recoveryEnd d) s

/-- SPACING_END (R32). -/
def execSpacingEnd (d : DeviceId) (s : State) : Result := row (spacingEnd d) s

/-- LAUNCH_CONFIRMED (R39). -/
def execLaunchConfirmed (s : State) : Result := row launchConfirmed s

/-- AUTO_LAUNCH_DELAY_END (R42). -/
def execAutoLaunchDelayEnd (s : State) : Result := row autoLaunchEnd s

/-- COIL_POWER_ABSENT (R35). -/
def execCoilPowerAbsent (s : State) : Result := row coilAbsent s

/-- COIL_POWER_PRESENT (R35). -/
def execCoilPowerPresent (s : State) : Result := row coilPresent s

/-! ## Search, ball save, modes, hits -/

/-- PLAYFIELD_QUIET (R57). -/
def execPlayfieldQuiet (s : State) : Result := row quietReached s

/-- SEARCH_STEP (R58). -/
def execSearchStep (s : State) : Result := row searchStepEnd s

/-- SAVE_EXPIRY (R80). -/
def execSaveExpiry (s : State) : Result := row saveEnd s

/-- MODE_EXPIRY (R132). -/
def execModeExpiry (m : ModeId) (s : State) : Result := row (modeEnd m) s

/-- HIT_RESOLUTION (R147). -/
def execHitResolution (s : State) : Result := row resolveNext s

/-! ## The link's events -/

/-- FRAME_RECEIVED (R179). -/
def execFrameReceived (s : State) : Result := row frameDone s

/-- BYTE_ERROR (R178): a frame received whole has left the receiver before it (R179, log 27). -/
def execByteError (s : State) : Result := row (fun s => byteFault (frameDone s)) s

/-- FRAME_TIMEOUT (R180). -/
def execFrameTimeout (s : State) : Result := row frameTimeout s

/-- FRAME_SENT (R198). -/
def execFrameSent (s : State) : Result := row sendNext s

/-- BYTE_RECEIVED (R179, R180): a frame received whole has left the receiver before it (log 27), and a frame whose next byte
comes too late has been discarded (log 28). -/
def execByteReceived (b : Byte) (s : State) : Result := row (fun s => takeByte b (frameTimeout (frameDone s))) s

/-! ## The tick -/

/-- MILLISECOND_TICK (R1, R2, R35, R80, R130). -/
def execMillisecondTick (raw : BitVec 72) (coilPwr : Bool) (s : State) : Result := row (tick raw coilPwr) s

end Sys2Proof.Machine
end

