-- ==== Sys2Proof/Machine/GameRows.lean ====
section
/-! DEFINITION. The meanings of the game commands: START_GAME to LAUNCH_BALL. The row of a command takes its frame
from the command buffer (R182, log 4); its checks stand in the order of its owning rule. -/

namespace Sys2Proof.Machine

/-- What START_GAME does once it is taken, by its checks and its effect (R66). -/
def carryStartGame (p : List Byte) : Carry :=
  checkLength 1 p <| checkedStart (byteAt p 0)

/-- START_GAME (R66). -/
def execStartGame (tag : Byte) (p : List Byte) (s : State) : Result :=
  row (hostRow 0x20 tag p (carryStartGame p)) s

/-- What ADD_PLAYER does once it is taken, by its checks and its effect (R74). -/
def carryAddPlayer (p : List Byte) : Carry :=
  checkLength 0 p <| inRunning <| refuseWhen .notAllowed State.noRoomForPlayer <| carryEvent addPlayer

/-- ADD_PLAYER (R74). -/
def execAddPlayer (tag : Byte) (p : List Byte) (s : State) : Result :=
  row (hostRow 0x21 tag p (carryAddPlayer p)) s

/-- What ADVANCE_BALL does once it is taken, by its checks and its effect (R72). -/
def carryAdvanceBall (p : List Byte) : Carry :=
  checkLength 0 p <| inRunning <| refuseWhen .wrongState (fun s => s.game.state != .ballOver) <|
    carryEvent advanceBall

/-- ADVANCE_BALL (R72). -/
def execAdvanceBall (tag : Byte) (p : List Byte) (s : State) : Result :=
  row (hostRow 0x22 tag p (carryAdvanceBall p)) s

/-- What END_GAME does once it is taken, by its checks and its effect (R77). -/
def carryEndGame (p : List Byte) : Carry :=
  checkLength 0 p <| inRunning <| refuseWhen .wrongState State.noGame <| carryDone (abandon .aborted)

/-- END_GAME (R77). -/
def execEndGame (tag : Byte) (p : List Byte) (s : State) : Result :=
  row (hostRow 0x23 tag p (carryEndGame p)) s

/-- What SET_PLAYFIELD_MULT does once it is taken, by its checks and its effect (R162). -/
def carrySetPlayfieldMult (p : List Byte) : Carry :=
  checkLength 1 p <| inRunning <| refuseWhen .noGame State.noGame <| carryEvent (setFieldMult (byteAt p 0))

/-- SET_PLAYFIELD_MULT (R162). -/
def execSetPlayfieldMult (tag : Byte) (p : List Byte) (s : State) : Result :=
  row (hostRow 0x24 tag p (carrySetPlayfieldMult p)) s

/-- What START_SAVE does once it is taken, by its checks and its effect (R81). -/
def carryStartSave (p : List Byte) : Carry :=
  checkLength 1 p <| inRunning <| carryEvent (commandSave (byteAt p 0))

/-- START_SAVE (R81). -/
def execStartSave (tag : Byte) (p : List Byte) (s : State) : Result :=
  row (hostRow 0x25 tag p (carryStartSave p)) s

/-- What LIGHT_LOCK does once it is taken, by its checks and its effect (R88). -/
def carryLightLock (p : List Byte) : Carry :=
  checkLength 1 p <| inRunning <|
    withFields ((index 8 (byteAt p 0)).filter fun d => (lockIndex d).isSome) fun d =>
      refuseWhen .notAllowed (fun s => !(s.device d).lockable) <| refuseWhen .noGame State.noGame <|
        carryEvent (commandLight d)

/-- LIGHT_LOCK (R88). -/
def execLightLock (tag : Byte) (p : List Byte) (s : State) : Result :=
  row (hostRow 0x26 tag p (carryLightLock p)) s

/-- What ADD_BALL does once it is taken, by its checks and its effect (R100). -/
def carryAddBall (p : List Byte) : Carry :=
  checkLength 0 p <| inRunning <| refuseWhen .noGame State.noGame <| carryEvent commandAddBall

/-- ADD_BALL (R100). -/
def execAddBall (tag : Byte) (p : List Byte) (s : State) : Result :=
  row (hostRow 0x27 tag p (carryAddBall p)) s

/-- What START_MODE does once it is taken, by its checks and its effect (R117). -/
def carryStartMode (p : List Byte) : Carry :=
  checkLength 1 p <| inRunning <| withFields (index 32 (byteAt p 0)) fun m => carryEvent (commandStart m)

/-- START_MODE (R117). -/
def execStartMode (tag : Byte) (p : List Byte) (s : State) : Result :=
  row (hostRow 0x28 tag p (carryStartMode p)) s

/-- What STOP_MODE does once it is taken, by its checks and its effect (R120). -/
def carryStopMode (p : List Byte) : Carry :=
  checkLength 2 p <| inRunning <| withFields (index 32 (byteAt p 0)) fun m =>
    withFields (within 0 4 (byteAt p 1)) fun q =>
      refuseWhen .noGame State.noGame <| refuseWhen .notAllowed (fun s => s.game.players < q) <|
        carryEvent (commandStop m q)

/-- STOP_MODE (R120). -/
def execStopMode (tag : Byte) (p : List Byte) (s : State) : Result :=
  row (hostRow 0x29 tag p (carryStopMode p)) s

/-- What ADVANCE_MODE does once it is taken, by its checks and its effect (R135). -/
def carryAdvanceMode (p : List Byte) : Carry :=
  checkLength 2 p <| inRunning <| withFields (index 32 (byteAt p 0)) fun m =>
    withFields (within 1 255 (byteAt p 1)) fun n => carryEvent (commandAdvance m n)

/-- ADVANCE_MODE (R135). -/
def execAdvanceMode (tag : Byte) (p : List Byte) (s : State) : Result :=
  row (hostRow 0x2A tag p (carryAdvanceMode p)) s

/-- What HIT does once it is taken, by its checks and its effect (R15). The rule lists its refusals without an order: the
state is checked first (R182); that the source is checked before the room in the queue is a DESIGN CHOICE (log 46). -/
def carryHit (p : List Byte) : Carry :=
  checkLength 1 p <| inRunning <| refuseWhen .wrongState (fun s => !s.playable) <|
    withFields (virtualSource (byteAt p 0)) fun x =>
      refuseWhen .busy (fun s => hitLimit ≤ s.hit.queue.length) <| carryEvent (commandHit x)

/-- HIT (R15). -/
def execHit (tag : Byte) (p : List Byte) (s : State) : Result :=
  row (hostRow 0x2B tag p (carryHit p)) s

/-- What RETRY_DEVICE does once it is taken, by its checks and its effect (R34). -/
def carryRetryDevice (p : List Byte) : Carry :=
  checkLength 1 p <| inRunning <| withFields (index 8 (byteAt p 0)) fun d =>
    refuseWhen .notAllowed (fun s => (s.device d).eject != .jammed) <| carryDone (retryDevice d)

/-- RETRY_DEVICE (R34). -/
def execRetryDevice (tag : Byte) (p : List Byte) (s : State) : Result :=
  row (hostRow 0x2C tag p (carryRetryDevice p)) s

/-- What LAUNCH_BALL does once it is taken, by its checks and its effect (R43). -/
def carryLaunchBall (p : List Byte) : Carry :=
  checkLength 0 p <| inRunning <| refuseWhen .notAllowed (fun s => !(s.device 1).record.launchCoil) <|
    carryDone commandLaunch

/-- LAUNCH_BALL (R43). -/
def execLaunchBall (tag : Byte) (p : List Byte) (s : State) : Result :=
  row (hostRow 0x2D tag p (carryLaunchBall p)) s

end Sys2Proof.Machine
end

