-- ==== Sys2Proof/Machine/QueryRows.lean ====
section
/-! DEFINITION. The meanings of the query commands, IDENTIFY to SET_NOTICE_MASK, and of UNKNOWN_KIND. The row of a command takes its frame
from the command buffer (R182, log 4); its checks stand in the order of its owning rule. -/

namespace Sys2Proof.Machine

/-- What IDENTIFY does once it is taken, by its checks and its effect (R192). -/
def carryIdentify (p : List Byte) : Carry :=
  checkLength 0 p <| carryRead State.identityResult

/-- IDENTIFY (R192). -/
def execIdentify (tag : Byte) (p : List Byte) (s : State) : Result :=
  row (hostRow 0x30 tag p (carryIdentify p)) s

/-- What READ_PLAYER does once it is taken, by its checks and its effect (R85, R104). -/
def carryReadPlayer (p : List Byte) : Carry :=
  checkLength 1 p <| withFields (playerOf (byteAt p 0)) fun q => carryRead (State.playerResult · q)

/-- READ_PLAYER (R85, R104). -/
def execReadPlayer (tag : Byte) (p : List Byte) (s : State) : Result :=
  row (hostRow 0x31 tag p (carryReadPlayer p)) s

/-- What READ_STACK does once it is taken, by its checks and its effect (R128). -/
def carryReadStack (p : List Byte) : Carry :=
  checkLength 0 p <| carryRead State.stackResult

/-- READ_STACK (R128). -/
def execReadStack (tag : Byte) (p : List Byte) (s : State) : Result :=
  row (hostRow 0x32 tag p (carryReadStack p)) s

/-- What READ_BALLS does once it is taken, by its checks and its effect (R62). -/
def carryReadBalls (p : List Byte) : Carry :=
  checkLength 0 p <| carryRead State.ballsResult

/-- READ_BALLS (R62). -/
def execReadBalls (tag : Byte) (p : List Byte) (s : State) : Result :=
  row (hostRow 0x33 tag p (carryReadBalls p)) s

/-- What READ_SWITCHES does once it is taken, by its checks and its effect (R16). -/
def carryReadSwitches (p : List Byte) : Carry :=
  checkLength 0 p <| carryRead State.switchesResult

/-- READ_SWITCHES (R16). -/
def execReadSwitches (tag : Byte) (p : List Byte) (s : State) : Result :=
  row (hostRow 0x34 tag p (carryReadSwitches p)) s

/-- What READ_POOLS does once it is taken, by its checks and its effect (R176). -/
def carryReadPools (p : List Byte) : Carry :=
  checkLength 0 p <| carryRead State.poolsResult

/-- READ_POOLS (R176). -/
def execReadPools (tag : Byte) (p : List Byte) (s : State) : Result :=
  row (hostRow 0x35 tag p (carryReadPools p)) s

/-- What READ_VAR does once it is taken, by its checks and its effect (R159). -/
def carryReadVar (p : List Byte) : Carry :=
  checkLength 2 p <| withFields (readVarName p) fun x => carryRead fun s => le16 (s.var x.1 x.2)

/-- READ_VAR (R159). -/
def execReadVar (tag : Byte) (p : List Byte) (s : State) : Result :=
  row (hostRow 0x36 tag p (carryReadVar p)) s

/-- What WRITE_VAR does once it is taken, by its checks and its effect (R159). -/
def carryWriteVar (p : List Byte) : Carry :=
  checkLength 4 p <| inRunning <| withFields (readVarName p) fun x =>
    carryEvent (writeVar x.1 x.2 (wordAt p 2))

/-- WRITE_VAR (R159). -/
def execWriteVar (tag : Byte) (p : List Byte) (s : State) : Result :=
  row (hostRow 0x37 tag p (carryWriteVar p)) s

/-- What SWAP_VAR does once it is taken, by its checks and its effect (R160). -/
def carrySwapVar (p : List Byte) : Carry :=
  checkLength 6 p <| inRunning <| withFields (readVarName p) fun x =>
    carryEvent (swapVar x.1 x.2 (wordAt p 2) (wordAt p 4))

/-- SWAP_VAR (R160). -/
def execSwapVar (tag : Byte) (p : List Byte) (s : State) : Result :=
  row (hostRow 0x38 tag p (carrySwapVar p)) s

/-- What READ_NOTICES does once it is taken, by its checks and its effect (R202). -/
def carryReadNotices (p : List Byte) : Carry :=
  checkLength 0 p <| carryRead State.noticesResult

/-- READ_NOTICES (R202). -/
def execReadNotices (tag : Byte) (p : List Byte) (s : State) : Result :=
  row (hostRow 0x39 tag p (carryReadNotices p)) s

/-- What CLEAR_NOTICES does once it is taken, by its checks and its effect (R200). -/
def carryClearNotices (p : List Byte) : Carry :=
  checkLength 1 p <| carryEvent (clearNotices (p.getD 0 0))

/-- CLEAR_NOTICES (R200). -/
def execClearNotices (tag : Byte) (p : List Byte) (s : State) : Result :=
  row (hostRow 0x3A tag p (carryClearNotices p)) s

/-- What SET_NOTICE_MASK does once it is taken, by its checks and its effect (R201). -/
def carrySetNoticeMask (p : List Byte) : Carry :=
  checkLength 1 p <| carryEvent (setMask (p.getD 0 0))

/-- SET_NOTICE_MASK (R201). -/
def execSetNoticeMask (tag : Byte) (p : List Byte) (s : State) : Result :=
  row (hostRow 0x3B tag p (carrySetNoticeMask p)) s

/-- UNKNOWN_KIND (R182): a frame whose kind is not a command kind is taken and refused. A kind that is a command kind is not
this row's, and nothing happens. -/
def execUnknownKind (kind tag : Byte) (p : List Byte) (s : State) : Result :=
  row (fun s => if isCommandKind kind then s else hostRow kind tag p (refuse .unknownKind) s) s

end Sys2Proof.Machine
end

