-- ==== Sys2Proof/Machine/SetupRows.lean ====
section
/-! DEFINITION. The meanings of the setup commands: SET_SWITCH to RESTART. The row of a command takes its frame
from the command buffer (R182, log 4); its checks stand in the order of its owning rule. -/

namespace Sys2Proof.Machine

/-- What SET_SWITCH does once it is taken, by its checks and its effect (R6). -/
def carrySetSwitch (p : List Byte) : Carry :=
  checkLength 7 p <| inSetup <| withFields (readSwitchSetting p) fun x => carryDone (storeSwitch x)

/-- SET_SWITCH (R6). -/
def execSetSwitch (tag : Byte) (p : List Byte) (s : State) : Result :=
  row (hostRow 0x10 tag p (carrySetSwitch p)) s

/-- What SET_FILTER does once it is taken, by its checks and its effect (R3). -/
def carrySetFilter (p : List Byte) : Carry :=
  checkLength 3 p <| inSetup <| withFields (readFilter p) fun x => carryDone (storeFilter x.1 x.2)

/-- SET_FILTER (R3). -/
def execSetFilter (tag : Byte) (p : List Byte) (s : State) : Result :=
  row (hostRow 0x11 tag p (carrySetFilter p)) s

/-- What SET_DEVICE does once it is taken, by its checks and its effect (R18, R19). -/
def carrySetDevice (p : List Byte) : Carry :=
  checkLength 23 p <| inSetup <| withFields (readDevice p) fun x => carryDone (storeDevice x.1 x.2)

/-- SET_DEVICE (R18, R19). -/
def execSetDevice (tag : Byte) (p : List Byte) (s : State) : Result :=
  row (hostRow 0x12 tag p (carrySetDevice p)) s

/-- What SET_GAME does once it is taken, by its checks and its effect (R187). -/
def carrySetGame (p : List Byte) : Carry :=
  checkLength 8 p <| inSetup <| withFields (readGame p) fun x => carryDone (storeGame x)

/-- SET_GAME (R187). -/
def execSetGame (tag : Byte) (p : List Byte) (s : State) : Result :=
  row (hostRow 0x13 tag p (carrySetGame p)) s

/-- What SET_MODE does once it is taken, by its checks and its effect (R107, R108, R194). -/
def carrySetMode (p : List Byte) : Carry :=
  checkLength 13 p <| withFields (readMode p) fun x =>
    refuseWhen .modeInUse (fun s => s.running && s.modeInUse x.1) <| carryDone (storeMode x.1 x.2)

/-- SET_MODE (R107, R108, R194). -/
def execSetMode (tag : Byte) (p : List Byte) (s : State) : Result :=
  row (hostRow 0x14 tag p (carrySetMode p)) s

/-- What SET_POOL does once it is taken, by its checks and its effect (R175). -/
def carrySetPool (p : List Byte) : Carry :=
  checkLength 10 p <| withFields (readPool p) fun x =>
    carryEvent (storePool x.1 x.2.1 x.2.2.1 x.2.2.2)

/-- SET_POOL (R175). -/
def execSetPool (tag : Byte) (p : List Byte) (s : State) : Result :=
  row (hostRow 0x15 tag p (carrySetPool p)) s

/-- What SET_THRESHOLD does once it is taken, by its checks and its effect (R168). -/
def carrySetThreshold (p : List Byte) : Carry :=
  checkLength 8 p <| refuseWhen .wrongState (fun s => s.running && s.gameInProgress) <|
    withFields (readThreshold p) fun x => carryDone (storeThreshold x.1 x.2)

/-- SET_THRESHOLD (R168). -/
def execSetThreshold (tag : Byte) (p : List Byte) (s : State) : Result :=
  row (hostRow 0x16 tag p (carrySetThreshold p)) s

/-- What LOAD_AWARDS does once it is taken, by its checks and its effect (R144, R182, R193). -/
def carryLoadAwards (p : List Byte) : Carry :=
  if loadAwardsLength p then withFields (readLoad p) fun x => carryEvent (storeAwards x.1 x.2)
    else refuse .badLength

/-- LOAD_AWARDS (R144, R182, R193). -/
def execLoadAwards (tag : Byte) (p : List Byte) (s : State) : Result :=
  row (hostRow 0x17 tag p (carryLoadAwards p)) s

/-- What RUN does once it is taken, by its checks and its effect (R188, R189). -/
def carryRun (p : List Byte) : Carry :=
  checkLength 0 p <| inSetup checkedRun

/-- RUN (R188, R189). -/
def execRun (tag : Byte) (p : List Byte) (s : State) : Result :=
  row (hostRow 0x18 tag p (carryRun p)) s

/-- What RESTART does once it is taken, by its checks and its effect (R190). -/
def carryRestart (p : List Byte) : Carry :=
  checkLength 0 p countedRestart

/-- RESTART (R190). -/
def execRestart (tag : Byte) (p : List Byte) (s : State) : Result :=
  row (hostRow 0x19 tag p (carryRestart p)) s

end Sys2Proof.Machine
end

