-- ==== Sys2Proof/Machine/Dispatch.lean ====
section
/-! DEFINITION. Every command's meaning: one arm per row of spec/opcode_table.json. -/

namespace Sys2Proof.Machine

def exec (i : Instr) (s : State) : Host.Outcome State Fault Refusal :=
  match i with
  | .coldReset => Sys2Proof.Machine.execColdReset s
  | .resetHold => Sys2Proof.Machine.execResetHold s
  | .acceptedChange sw => Sys2Proof.Machine.execAcceptedChange sw s
  | .stuckTimerExpiry sw => Sys2Proof.Machine.execStuckTimerExpiry sw s
  | .settleTimerExpiry d => Sys2Proof.Machine.execSettleTimerExpiry d s
  | .holdTimerExpiry d => Sys2Proof.Machine.execHoldTimerExpiry d s
  | .pulseEnd d => Sys2Proof.Machine.execPulseEnd d s
  | .confirmWindowEnd d => Sys2Proof.Machine.execConfirmWindowEnd d s
  | .recoveryEnd d => Sys2Proof.Machine.execRecoveryEnd d s
  | .spacingEnd d => Sys2Proof.Machine.execSpacingEnd d s
  | .launchConfirmed => Sys2Proof.Machine.execLaunchConfirmed s
  | .autoLaunchDelayEnd => Sys2Proof.Machine.execAutoLaunchDelayEnd s
  | .coilPowerAbsent => Sys2Proof.Machine.execCoilPowerAbsent s
  | .coilPowerPresent => Sys2Proof.Machine.execCoilPowerPresent s
  | .playfieldQuiet => Sys2Proof.Machine.execPlayfieldQuiet s
  | .searchStep => Sys2Proof.Machine.execSearchStep s
  | .saveExpiry => Sys2Proof.Machine.execSaveExpiry s
  | .modeExpiry m => Sys2Proof.Machine.execModeExpiry m s
  | .hitResolution => Sys2Proof.Machine.execHitResolution s
  | .frameReceived => Sys2Proof.Machine.execFrameReceived s
  | .byteError => Sys2Proof.Machine.execByteError s
  | .frameTimeout => Sys2Proof.Machine.execFrameTimeout s
  | .unknownKind kind tag payload => Sys2Proof.Machine.execUnknownKind kind tag payload s
  | .frameSent => Sys2Proof.Machine.execFrameSent s
  | .setSwitch tag payload => Sys2Proof.Machine.execSetSwitch tag payload s
  | .setFilter tag payload => Sys2Proof.Machine.execSetFilter tag payload s
  | .setDevice tag payload => Sys2Proof.Machine.execSetDevice tag payload s
  | .setGame tag payload => Sys2Proof.Machine.execSetGame tag payload s
  | .setMode tag payload => Sys2Proof.Machine.execSetMode tag payload s
  | .setPool tag payload => Sys2Proof.Machine.execSetPool tag payload s
  | .setThreshold tag payload => Sys2Proof.Machine.execSetThreshold tag payload s
  | .loadAwards tag payload => Sys2Proof.Machine.execLoadAwards tag payload s
  | .run tag payload => Sys2Proof.Machine.execRun tag payload s
  | .restart tag payload => Sys2Proof.Machine.execRestart tag payload s
  | .startGame tag payload => Sys2Proof.Machine.execStartGame tag payload s
  | .addPlayer tag payload => Sys2Proof.Machine.execAddPlayer tag payload s
  | .advanceBall tag payload => Sys2Proof.Machine.execAdvanceBall tag payload s
  | .endGame tag payload => Sys2Proof.Machine.execEndGame tag payload s
  | .setPlayfieldMult tag payload => Sys2Proof.Machine.execSetPlayfieldMult tag payload s
  | .startSave tag payload => Sys2Proof.Machine.execStartSave tag payload s
  | .lightLock tag payload => Sys2Proof.Machine.execLightLock tag payload s
  | .addBall tag payload => Sys2Proof.Machine.execAddBall tag payload s
  | .startMode tag payload => Sys2Proof.Machine.execStartMode tag payload s
  | .stopMode tag payload => Sys2Proof.Machine.execStopMode tag payload s
  | .advanceMode tag payload => Sys2Proof.Machine.execAdvanceMode tag payload s
  | .hit tag payload => Sys2Proof.Machine.execHit tag payload s
  | .retryDevice tag payload => Sys2Proof.Machine.execRetryDevice tag payload s
  | .launchBall tag payload => Sys2Proof.Machine.execLaunchBall tag payload s
  | .identify tag payload => Sys2Proof.Machine.execIdentify tag payload s
  | .readPlayer tag payload => Sys2Proof.Machine.execReadPlayer tag payload s
  | .readStack tag payload => Sys2Proof.Machine.execReadStack tag payload s
  | .readBalls tag payload => Sys2Proof.Machine.execReadBalls tag payload s
  | .readSwitches tag payload => Sys2Proof.Machine.execReadSwitches tag payload s
  | .readPools tag payload => Sys2Proof.Machine.execReadPools tag payload s
  | .readVar tag payload => Sys2Proof.Machine.execReadVar tag payload s
  | .writeVar tag payload => Sys2Proof.Machine.execWriteVar tag payload s
  | .swapVar tag payload => Sys2Proof.Machine.execSwapVar tag payload s
  | .readNotices tag payload => Sys2Proof.Machine.execReadNotices tag payload s
  | .clearNotices tag payload => Sys2Proof.Machine.execClearNotices tag payload s
  | .setNoticeMask tag payload => Sys2Proof.Machine.execSetNoticeMask tag payload s
  | .millisecondTick raw coilPwr => Sys2Proof.Machine.execMillisecondTick raw coilPwr s
  | .byteReceived b => Sys2Proof.Machine.execByteReceived b s

end Sys2Proof.Machine
end

