-- ==== Sys2Proof/Machine/Core.lean ====
section
/-! DEFINITION. The PM62 as the host's interface asks for it. -/

/-- The PM62: its state, its step and the state after a cold reset. -/
def Sys2Proof.core : Host.Core := { State := Sys2Proof.Machine.State, Fault := Sys2Proof.Machine.Fault, Refusal := Sys2Proof.Machine.Refusal, step := Sys2Proof.Machine.step, reset := Sys2Proof.Machine.State.reset }
end

