-- ==== Sys2Proof/Machine/Payload.lean ====
section
/-! DEFINITION. The payloads of the setup commands as a host writes them, from the layouts of sections 10.4, 10.5 and 10.9,
and the values that a payload can carry. -/

namespace Sys2Proof.Machine

/-! ## The catalogue -/

/-- The payload length that the catalogue gives a command kind; none for LOAD_AWARDS, whose length its count byte gives
(section 10.4). -/
def catalogueLength (k : Byte) : Option Nat :=
  [(0x10, 7), (0x11, 3), (0x12, 23), (0x13, 8), (0x14, 13), (0x15, 10), (0x16, 8), (0x18, 0), (0x19, 0),
    (0x20, 1), (0x21, 0), (0x22, 0), (0x23, 0), (0x24, 1), (0x25, 1), (0x26, 1), (0x27, 0), (0x28, 1), (0x29, 2),
    (0x2A, 2), (0x2B, 1), (0x2C, 1), (0x2D, 0),
    (0x30, 0), (0x31, 1), (0x32, 0), (0x33, 0), (0x34, 0), (0x35, 0), (0x36, 2), (0x37, 4), (0x38, 6), (0x39, 0),
    (0x3A, 1), (0x3B, 1)].lookup k

/-! ## SET_SWITCH, SET_FILTER, SET_GAME, SET_POOL, SET_THRESHOLD -/

def Role.code : Role → Byte
  | .inactive => 0 | .playfield => 1 | .device => 2 | .start => 3 | .tilt => 4 | .slam => 5

/-- SET_SWITCH: source, role, polarity, class, rule offset, report flag, stuck time (R6). -/
def switchPayload (x : SourceId) (e : Source) : List Byte :=
  [byte x.val, e.role.code, flagByte e.inverted, byte e.cls.val, byte e.offset, flagByte e.reportFlag, byte e.stuckTime]

/-- An entry that SET_SWITCH stores for a physical source (R6). -/
structure Source.Valid (e : Source) : Prop where
  offset : e.offset ≤ 127
  stuckTime : e.stuckTime ≤ 60
  role : e.stuckTime ≠ 0 → e.role = .playfield

/-- SET_FILTER: class, close time, open time (R3). -/
def filterPayload (c : Fin 4) (x : FilterClass) : List Byte := [byte c.val, byte x.closeTime, byte x.openTime]

/-- Times that SET_FILTER stores (R3). -/
structure FilterClass.Valid (x : FilterClass) : Prop where
  close : 1 ≤ x.closeTime ∧ x.closeTime ≤ 255
  opn : 1 ≤ x.openTime ∧ x.openTime ≤ 255

/-- SET_GAME: the seven settings in the order of R187. -/
def gamePayload (x : Settings) : List Byte :=
  [byte x.installed, byte x.ballsPerGame, byte x.saveSeconds, byte x.tiltLimit, byte x.searchDelay] ++ le16 x.baseBase ++
    [byte x.baseLength]

/-- Settings that SET_GAME stores (R187). -/
structure Settings.Valid (x : Settings) : Prop where
  installed : 1 ≤ x.installed ∧ x.installed ≤ 8
  ballsPerGame : 1 ≤ x.ballsPerGame ∧ x.ballsPerGame ≤ 10
  saveSeconds : x.saveSeconds ≤ 30
  tiltLimit : 1 ≤ x.tiltLimit ∧ x.tiltLimit ≤ 5
  searchDelay : 2 ≤ x.searchDelay ∧ x.searchDelay ≤ 60
  baseBase : x.baseBase ≤ 1023
  baseLength : 1 ≤ x.baseLength ∧ x.baseLength ≤ 128
  page : x.baseBase + x.baseLength ≤ 1024

/-- SET_POOL: pool, base, cap, scope (R175). -/
def poolPayload (j : Fin 8) (base cap : Nat) (player : Bool) : List Byte :=
  byte j.val :: valueBytes base ++ valueBytes cap ++ [flagByte player]

/-- SET_THRESHOLD: the threshold's number and its value (R168). -/
def thresholdPayload (k : Fin 3) (v : Nat) : List Byte := byte (k.val + 1) :: scoreBytes v

/-! ## SET_DEVICE -/

/-- The position switch list: the switches, then 255 up to 8 bytes (section 10.4). -/
def switchListBytes (l : List SwitchId) : List Byte :=
  (l.map fun n => byte n.val) ++ List.replicate (8 - l.length) 0xFF

/-- SET_DEVICE: the device number and the fields of R17. -/
def devicePayload (d : DeviceId) (r : DeviceRecord) : List Byte :=
  [byte d.val, r.kind.code, byte r.capacity] ++ switchListBytes r.switches ++ [byte r.pulse] ++ le16 r.confirm ++
    le16 r.settle ++ le16 r.hold ++
    [flagByte r.lockable, byte r.goal, flagByte r.searchEligible, flagByte r.launchCoil, flagByte r.autoLaunch]

/-- A record that SET_DEVICE stores at a device (R17, R18): a field that does not belong to its kind has its cold reset
value. -/
structure DeviceRecord.Valid (d : DeviceId) (r : DeviceRecord) : Prop where
  kind : kindAllowed d r.kind = true
  unused : r.kind = .unused → r = .cold
  capacity : capacityFits r.kind r.capacity = true
  switches : r.switches.length = r.capacity ∧ r.switches.Nodup
  pulse : 10 ≤ r.pulse ∧ r.pulse ≤ 250
  confirm : 300 ≤ r.confirm ∧ r.confirm ≤ 3000
  settle : 50 ≤ r.settle ∧ r.settle ≤ 2000
  hold : r.hold ≤ 5000 ∧ r.goal ≤ 5
  holdOnly : r.kind ≠ .hold → r.hold = 0 ∧ r.lockable = false ∧ r.goal = 0 ∧ r.searchEligible = false
  launchOnly : r.kind ≠ .launch → r.launchCoil = false ∧ r.autoLaunch = false
  autoLaunch : r.autoLaunch = true → r.launchCoil = true

/-! ## SET_MODE -/

/-- A bit of a byte. -/
def bitIf (b : Bool) (v : Nat) : Nat := if b then v else 0

def Policy.code : Policy → Nat
  | .ignore => 0 | .extend => 1 | .restart => 2

def Counter.code : Counter → Nat
  | .none => 0 | .count => 1 | .free => 2

/-- The code of a report threshold 1, 2, 4, 8 or 16 (section 10.9). -/
def thresholdCode (t : Nat) : Nat := if t = 1 then 0 else if t = 2 then 1 else if t = 4 then 2 else if t = 8 then 3 else 4

/-- The counter award: the completion award of a COUNT mode, the lap award of a FREE mode (R194). -/
def Descriptor.counterAward (d : Descriptor) : Option Nat :=
  match d.counter with
  | .none => none
  | .count => d.completion
  | .free => d.lap

/-- The 12 bytes of a descriptor (section 10.9). -/
def Descriptor.bytes (d : Descriptor) : List Byte :=
  [byte (bitIf d.defined 1 + bitIf d.carry 2 + bitIf d.endWithMultiball 4 + 8 * d.policy.code + 32 * d.counter.code +
      bitIf d.expiry.isSome 128),
    byte (d.priority + 16 * d.group + bitIf d.counterAward.isSome 128),
    byte (d.own + 16 * d.depth + 64 * (d.pageBase / 256)),
    byte d.pageBase,
    byte d.pageLength] ++
    le16 (d.duration + 8192 * thresholdCode d.threshold) ++
    le16 (d.goal + 16384 * (d.expiry.getD 0 / 256)) ++
    [byte (d.expiry.getD 0)] ++
    le16 (d.counterAward.getD 0)

/-- SET_MODE: the mode and its descriptor (R107). -/
def modePayload (m : ModeId) (d : Descriptor) : List Byte := byte m.val :: d.bytes

/-- A descriptor that SET_MODE stores (R106, R107, R194). -/
structure Descriptor.Valid (d : Descriptor) : Prop where
  undefined : d.defined = false → d = .cold
  priority : 1 ≤ d.priority ∧ d.priority ≤ 15
  group : d.group ≤ 7
  page : d.pageBase ≤ 1023 ∧ 1 ≤ d.pageLength ∧ d.pageLength ≤ 128 ∧ d.pageBase + d.pageLength ≤ 1024
  own : 1 ≤ d.own ∧ d.own ≤ 9
  depth : d.depth ≤ 3
  duration : d.duration ≤ 6000
  threshold : d.threshold ∈ [1, 2, 4, 8, 16]
  goal : if d.counter = .count then 1 ≤ d.goal ∧ d.goal ≤ 9999 else d.goal = 0
  completion : ∀ a ∈ d.completion, a ≤ 1023 ∧ d.counter = .count
  lap : ∀ a ∈ d.lap, a ≤ 1023 ∧ d.counter = .free
  expiry : ∀ a ∈ d.expiry, a ≤ 1023

/-! ## LOAD_AWARDS -/

/-- The source code and pool of an award entry (section 10.9). -/
def Points.byte : Points → Nat
  | .fixed => 0 | .poolCollect j => 1 + 16 * j.val | .poolAdd j => 2 + 16 * j.val

def Condition.byte : Condition → Nat
  | .none => 0 | .varSet v => 1 + 16 * v.val | .varTake v => 2 + 16 * v.val

/-- The action code and its two arguments (R193). -/
def Action.bytes : Action → List Byte
  | .none => [0, 0, 0]
  | .lightLock d => [1, Machine.byte d.val, 0]
  | .startMode m => [2, Machine.byte m.val, 0]
  | .stopMode m => [3, Machine.byte m.val, 0]
  | .advance Option.none n => [4, 255, Machine.byte n]
  | .advance (some m) n => [4, Machine.byte m.val, Machine.byte n]
  | .startSave t => [5, Machine.byte t, 0]
  | .addBall => [6, 0, 0]
  | .extraBall => [7, 0, 0]
  | .bonusMultUp => [8, 0, 0]
  | .countVar v n => [9, Machine.byte v.val, Machine.byte n]

/-- The 12 bytes of an award entry (section 10.9). -/
def Award.bytes : Award → List Byte
  | .empty => List.replicate 12 0
  | .award src multiplied pass value bonus cond action =>
    [byte (1 + bitIf multiplied 2 + bitIf pass 4), byte src.byte] ++ valueBytes value ++ bcd 2 bonus ++
      [byte cond.byte] ++ action.bytes

/-- Arguments that an action can carry (R152). -/
def Action.Valid : Action → Prop
  | .advance _ n => 1 ≤ n ∧ n ≤ 15
  | .startSave t => t ≤ 255
  | .countVar _ n => 1 ≤ n ∧ n ≤ 255
  | .none | .lightLock _ | .startMode _ | .stopMode _ | .addBall | .extraBall | .bonusMultUp => True

/-- An entry that LOAD_AWARDS stores (R143, R144). -/
def Award.Valid : Award → Prop
  | .empty => True
  | .award _ _ _ value bonus _ action => value ≤ 99999999 ∧ bonus ≤ 9999 ∧ action.Valid

/-- LOAD_AWARDS: start address, count and entries (section 10.4). -/
def loadPayload (a : Nat) (es : List Award) : List Byte := le16 a ++ byte es.length :: es.flatMap Award.bytes

end Sys2Proof.Machine
end

