-- ==== Sys2Proof/WellFormed.lean ====
section
/-! DEFINITION. Which terms of Instr are commands the part can meet: a payload is 0 to 240 bytes long (R179), and a frame
taken as UNKNOWN_KIND has a kind that is not a command kind (R182). Numbers of switches, devices and modes are in range by
their types. -/

namespace Sys2Proof

/-- The payload, where the row takes a frame, fits the length byte (R179). -/
def payloadFits (i : Instr) : Bool :=
  match hostFrame i with
  | none => true
  | some (_, _, p) => p.length ≤ 240

/-- A row UNKNOWN_KIND carries a kind that is not a command kind (R182 check 1). -/
def kindFits : Instr → Bool
  | .unknownKind k _ _ => !isCommandKind k
  | _ => true

/-- A command that can stand in a frame, or an event of the part. -/
abbrev WellFormed (i : Instr) : Prop := payloadFits i = true ∧ kindFits i = true

end Sys2Proof
end

