-- ==== Sys2Proof/Safety.lean ====
section
/-! DEFINITION. What the claims hold a state of the PM62 to: the census equation, the coil limit, the bounds of the queues,
of the records and of the pools, the canonical form of the award table, and what stands between two events; and the words
the claims use for what a step queues, for a hit that meets an entry, and for what the entry's action does. -/

namespace Sys2Proof.Machine

/-! ## Between two events -/

/-- Between events every report has reached the Link Unit (log 31). -/
def State.filed (s : State) : Prop := s.out = []

/-- While the mode timers do not run, no frame stands marked for its expiry (R130, log 20). -/
def State.marksHold (s : State) : Prop := s.timersRun = false → ∀ f ∈ s.mode.stack, f.expiring = false

/-- A state between two events: RESET_N is high, no report is unfiled, no mark stands where the timers do not run. -/
structure State.AtRest (s : State) : Prop where
  awake : s.resetHeld = false
  filed : s.filed
  marks : s.marksHold

/-! ## The taking of a command -/

/-- The part takes this frame next: it stands at the front of the command buffer, and the reply queue has a free place
(R182). -/
structure State.Takes (s : State) (kind tag : Byte) (p : List Byte) : Prop where
  front : s.link.commands.head? = some ⟨kind, tag, p⟩
  place : s.link.replies.length < replyLimit

/-- The state once the front command has left the buffer (R182). -/
def State.taken (s : State) : State := s.modLink fun l => { l with commands := l.commands.tail }

/-! ## Invariants -/

/-- The census equation of R46: in RUNNING every installed ball is in one place; in SETUP no census exists, every eject
machine is OFF, and nothing of a game is in progress (R186). -/
def State.censusHolds (s : State) : Prop :=
  if s.running then s.total = s.settings.installed
  else s.dev.launchAt = none ∧ s.dev.autoAt = none ∧ s.track.search = .idle ∧ s.game.state = .noGame ∧
    s.mode.stack = [] ∧ ∀ d, (s.device d).held = [] ∧ (s.device d).queue = [] ∧ (s.device d).eject = .off

/-- At most two eject coils are energised at once (R28). -/
def State.coilsBounded (s : State) : Prop := s.pulsingCount ≤ 2

/-- The queues keep their bounds (section 1.6, R25, R181, R185, R196, R197). -/
structure State.QueuesBounded (s : State) : Prop where
  commands : s.link.commands.length ≤ commandLimit
  replies : s.link.replies.length ≤ replyLimit
  reports : s.link.reports.length ≤ reportLimit
  gap : s.link.gap ≤ gapLimit
  hits : s.hit.queue.length ≤ hitLimit
  ejects : ∀ d, (s.device d).queue.length ≤ 8

/-- The mode stack and the carried lists hold 8 frames at most (R110, R123). The stack stands only in a ball in progress, and
the current player's carried list is empty then (R122 to R124). -/
structure State.ModesBounded (s : State) : Prop where
  stack : s.mode.stack.length ≤ stackLimit
  carried : ∀ p : PlayerId, (s.mode.carried[p]).length ≤ stackLimit
  idle : s.game.state = .noGame ∨ s.game.state = .ballOver → s.mode.stack = []
  restored : s.game.state ≠ .noGame → s.game.state ≠ .ballOver →
    ∀ p : PlayerId, s.game.current = some p → s.mode.carried[p] = []

/-- The tilt warnings lie between 0 and the tilt limit, which is at most 5 (R63, R65); the limit is reached only with the
ball tilted (R79), and in SETUP no game is in progress and no warning stands (R190). -/
structure State.TiltsBounded (s : State) : Prop where
  limit : s.settings.tiltLimit ≤ 5
  least : 1 ≤ s.settings.tiltLimit
  warnings : ∀ p, (s.record p).warnings ≤ s.settings.tiltLimit
  untilted : s.game.state ≠ .noGame → s.game.state ≠ .ballOver → s.game.tilted = false →
    ∀ p, s.game.current = some p → (s.record p).warnings < s.settings.tiltLimit
  setup : s.running = false → s.game.state = .noGame ∧ ∀ p, (s.record p).warnings = 0

/-- The award table stands in its canonical form. -/
def State.awardsCanonical (s : State) : Prop := awardsWf s.hit.awards = true

/-- Every listed entry of the award table is one that LOAD_AWARDS stores (R143, R144, R152). -/
def State.awardsValid (s : State) : Prop := ∀ e ∈ s.hit.awards, e.2.Valid

/-- The bounds of the fields of a player record (R65, R162, R166, R169, R170). -/
structure Player.Bounded (r : Player) : Prop where
  score : r.score ≤ scoreMax
  bonus : r.bonus ≤ bonusMax
  bonusMult : 1 ≤ r.bonusMult ∧ r.bonusMult ≤ 99
  fieldMult : 1 ≤ r.fieldMult ∧ r.fieldMult ≤ 9
  extraBalls : r.extraBalls ≤ 9

/-- Every player record keeps its bounds. -/
def State.playersBounded (s : State) : Prop := ∀ p, (s.record p).Bounded

/-- The value of a pool lies between its base and its cap, and the cap has 8 digits (R172, R177). -/
structure Pool.Bounded (q : Pool) : Prop where
  base : q.base ≤ q.cap
  cap : q.cap ≤ bonusMax
  value : ∀ v ∈ q.value.list, q.base ≤ v ∧ v ≤ q.cap

/-- Every pool keeps its bounds. -/
def State.poolsBounded (s : State) : Prop := ∀ j, (s.pool j).Bounded

/-! ## Reports and hits -/

/-- The first reports that the step from `s` to `t` queues are those of the list, in this order (R196, R197). -/
def State.Queues (s : State) (l : List Report) (t : State) : Prop :=
  ∃ more, t.link.reports = (forEach l queueReport s).link.reports ++ more

/-- Every request of a purpose leaves a device's queue, but a head whose attempt is in progress (R59, R60, R75). -/
structure State.Withdraws (s : State) (d : DeviceId) (p : Purpose) (t : State) : Prop where
  behind : ∀ r ∈ (t.device d).queue.tail, r.purpose ≠ p
  head : (t.device d).attempting = false → ∀ r ∈ (t.device d).queue, r.purpose ≠ p
  kept : (s.device d).attempting = true → ∀ r, (s.device d).queue.head? = some r → r.purpose = p →
    (t.device d).queue.head? = some r

/-- A page holds the entry `e` at address `a` for a hit of rule offset `offset`, with the factors it hands over (R146). -/
def State.PageHolds (s : State) (offset : Nat) (page : Option ModeId) (a own inherited : Nat) (e : Award) : Prop :=
  ∃ base length, s.page page = some (base, length, own, inherited) ∧ offset < length ∧ a = base + offset ∧
    awardAt s.hit.awards a = e

/-- A page without an entry that applies: too short for the rule offset, or its entry is EMPTY or fails its condition
(R146, R149, R150). -/
def State.PassesOver (s : State) (offset : Nat) (page : Option ModeId) : Prop :=
  ∃ base length own inherited, s.page page = some (base, length, own, inherited) ∧
    (length ≤ offset ∨ awardAt s.hit.awards (base + offset) = .empty ∨
      ∃ source multiplied pass value bonus condition action, awardAt s.hit.awards (base + offset) =
        .award source multiplied pass value bonus condition action ∧ s.passes condition = false)

/-- A hit waits at the front and is resolved in play for player `p` (R148). -/
structure State.InPlay (s : State) (h : Hit) (p : PlayerId) : Prop where
  rest : s.AtRest
  running : s.running = true
  front : s.hit.queue.head? = some h
  playable : s.playable = true
  untilted : s.game.tilted = false
  player : s.game.current = some p
  bounded : (s.record p).Bounded

/-- The hit meets one entry that applies: every page above is passed over, and the walk ends with it (R149, R150). -/
structure State.Meets (s : State) (h : Hit) (page : Option ModeId) (a own inherited : Nat) (e : Award) : Prop where
  uppermost : ∃ above below, s.snapshot = above ++ page :: below ∧
    (∀ q ∈ above, s.PassesOver (s.source h.source).offset q) ∧
    ∀ source multiplied pass value bonus condition action,
      e = .award source multiplied pass value bonus condition action →
        s.passes condition = true ∧ (pass = true → below = [])
  holds : s.PageHolds (s.source h.source).offset page a own inherited e

/-- The mode whose frame an advance moves: the one it names, or that of the page it stands on (R134, R152). -/
def Action.target (page : Option ModeId) : Action → Option ModeId
  | .advance target _ => target <|> page
  | _ => Option.none

/-- What the action of an entry on a page does for player `p`, from `s` to `t` (R152). -/
def State.Acts (s : State) (p : PlayerId) (page : Option ModeId) (action : Action) (t : State) : Prop :=
  match action with
  | .none => t.mode = s.mode ∧ t.dev = s.dev ∧ t.track = s.track ∧ t.lock = s.lock
  | .lightLock d =>
    if 2 ≤ d.val ∧ (s.device d).record.kind = .hold ∧ (s.device d).record.lockable = true ∧
      (s.lockAt p d).lit + (s.lockAt p d).made < (s.device d).record.goal then
      t.lockAt p d = ⟨(s.lockAt p d).lit + 1, (s.lockAt p d).made⟩ ∧
        ∀ q c, q ≠ p ∨ c ≠ d → t.lockAt q c = s.lockAt q c
    else t.lock = s.lock
  | .startMode m =>
    (((s.descriptor m).defined = false ∨ s.frame m = none ∧ s.groupHolder m ≠ none) → t.mode = s.mode) ∧
    ((s.descriptor m).defined = true → s.frame m = none → s.groupHolder m = none → s.mode.stack.length < 8 →
      (∀ k, k ≠ m → t.frame k = s.frame k) ∧
      ∃ f, t.frame m = some f ∧ f.serial = min 65535 (s.mode.serial + 1) ∧ f.remaining = (s.descriptor m).time ∧
        f.counter = (s.descriptor m).start)
  | .stopMode m => t.frame m = none ∧ ∀ k, k ≠ m → t.frame k = s.frame k
  | .advance _ n =>
    match action.target page with
    | none => t.mode = s.mode
    | some m =>
      match s.frame m with
      | none => t.mode = s.mode
      | some f =>
        (∀ k, k ≠ m → t.frame k = s.frame k) ∧
        match (s.descriptor m).counter with
        | .count => if n < f.counter then ∃ g, t.frame m = some g ∧ g.counter = f.counter - n else t.frame m = none
        | .free =>
          f.counter ≤ 9999 → ∃ g, t.frame m = some g ∧ g.counter = (f.counter + n) % 10000 ∧
            g.laps = if f.counter + n ≤ 9999 then f.laps else min 255 (f.laps + 1)
        | .none => ∃ g, t.frame m = some g ∧ g.counter = f.counter
  | .startSave n =>
    let time := min 30 n * 1000
    if s.game.state = .inPlay then
      if s.game.save = .counting then t.game.save = .counting ∧ t.game.saveLeft = max s.game.saveLeft time
      else if time = 0 then t.game.save = s.game.save ∧ t.game.saveLeft = s.game.saveLeft
      else t.game.save = .counting ∧ t.game.saveLeft = time
    else if time = 0 then t.game.save = s.game.save ∧ t.game.saveLeft = s.game.saveLeft
    else t.game.save = .armed ∧ t.game.saveLeft = max s.game.saveLeft time
  | .addBall =>
    (s.unclaimed = 0 → t.dev = s.dev) ∧
    (1 ≤ s.unclaimed → (s.device 0).eject ≠ .off → (s.device 0).queue.length < 8 →
      (∀ r ∈ (s.device 0).queue, r.count < 8) → t.serves = s.serves + 1)
  | .extraBall => (t.record p).extraBalls = min 9 ((s.record p).extraBalls + 1)
  | .bonusMultUp => (t.record p).bonusMult = min 99 ((s.record p).bonusMult + 1)
  | .countVar v n => t.var p v = min 65535 (s.var p v + n) ∧ ∀ w, w ≠ v → t.var p w = s.var p w

end Sys2Proof.Machine
end

