-- ==== Sys2Proof/Certificates/Slice0/Obligations.lean ====
section
/-! DEFINITION. What is claimed of the PM62: the queue and the reset, each command's effect with its reply and its frame, the
events of the part, the rules that hold of every command, and the invariants that every step keeps. A claim about a taken
command speaks of a state at rest in which the part takes the command's frame next (R182); how a frame comes to stand
there is the claim `FramesArriveInTheBuffer`. `queueReply` and `queueReport` are the moments of R185 and R196; `State.Queues` says which reports a step queues first; `State.taken` is the
state whose front command has left the buffer. -/

open Sys2Proof Sys2Proof.Machine

/-! ## The queue of commands and the reset -/

/-- A step runs the command at the front of the queue on the state with the rest of the queue, and idles on an empty queue
(the model's choice, log 1). -/
def Obligations.StepRunsTheFrontCommand : Prop :=
  (∀ (c : Instr) (rest : List Instr) (s : State), s.pending = c :: rest →
    step s = exec c { s with pending := rest }) ∧
  ∀ s : State, s.pending = [] → step s = .next s

/-- Every command of the table answers a next state on every state and leaves the queue of commands as it was. Both are the
model's choice: the queue is its own (logs 1 and 29; RESTART under log 36), and a row that no link could carry is answered
too (log 30). -/
def Obligations.EveryCommandKeepsTheQueue : Prop :=
  ∀ (c : Instr) (s : State), ∃ t, exec c s = .next t ∧ t.pending = s.pending

/-- COLD_RESET leaves every part of the state at its cold reset value, with the values that R3, R5, R17, R44, R65, R86,
R106, R129, R158, R168, R172, R187 and R191 give; the queue of commands is the model's own and stays (log 29). -/
def Obligations.ColdResetValues : Prop :=
  ∀ s : State, ∃ t, exec .coldReset s = .next t ∧ t = { State.reset with pending := s.pending } ∧
    t.link.state = .setup ∧ t.link.receiver = .hunting ∧ t.link.commands = [] ∧ t.link.replies = [] ∧
    t.link.reports = [⟨0, 0, .ready⟩] ∧ t.link.gap = 0 ∧ t.link.notices = 0 ∧ t.link.mask = 0xFF ∧ t.now = 0 ∧
    t.resetHeld = false ∧ t.attnLow = false ∧
    t.scan.classes.toList = [⟨2, 2⟩, ⟨8, 8⟩, ⟨32, 32⟩, ⟨1, 20⟩] ∧
    (∀ x, t.source x = ⟨.inactive, false, 1, 0, false, 0⟩) ∧
    (∀ d, (t.device d).record = ⟨.unused, 0, [], 30, 1000, 250, 0, false, 0, false, false, false⟩ ∧
      (t.device d).eject = .off ∧ (t.device d).held = [] ∧ (t.device d).queue = [] ∧ (t.device d).settled = 0) ∧
    t.settings = ⟨1, 3, 0, 3, 10, 0, 128⟩ ∧
    t.game.state = .noGame ∧ t.game.current = none ∧ t.game.save = .off ∧
    (∀ p, t.record p = ⟨0, 0, 1, 1, 0, 0, Vector.replicate 3 false, false⟩) ∧
    (∀ p d, t.lockAt p d = ⟨0, 0⟩) ∧
    (∀ m, t.descriptor m =
      ⟨false, 1, 0, 0, 1, 1, 0, 0, .ignore, .none, 0, 1, false, false, none, none, none⟩) ∧
    t.mode.stack = [] ∧ (∀ p : PlayerId, t.mode.carried[p] = []) ∧ t.mode.serial = 0 ∧
    (∀ a, awardAt t.hit.awards a = .empty) ∧ (∀ p v, t.var p v = 0) ∧ t.hit.queue = [] ∧
    (∀ j, t.pool j = ⟨0, 0, .shared 0⟩) ∧ (∀ k : Fin 3, t.score.thresholds[k] = 0)

/-- RESET_HOLD holds the part: the eject outputs and ATTN_N are released and TXD carries no frame; until COLD_RESET every
command leaves the held part as it is (R191; that no timer runs meanwhile is the model's choice, log 29). -/
def Obligations.ResetHoldsThePart : Prop :=
  (∀ s : State, ∃ t, exec .resetHold s = .next t ∧ t = { s with resetHeld := true, link := { s.link with txd := [] } } ∧
    t.attnLow = false ∧ ∀ d, t.ejectOutput d = false) ∧
  ∀ (c : Instr) (s : State), s.resetHeld = true → c ≠ .coldReset → c ≠ .resetHold → exec c s = .next s

/-! ## The setup commands -/

/-- SET_SWITCH (R6): for a physical source the entry is stored and the switch is set up afresh; for a device or virtual
source the rule offset and the report flag alone are stored, whatever the other fields hold. Nothing else changes, and the
reply is DONE with no result. -/
def Obligations.SetSwitchStores : Prop :=
  (∀ (s : State) (tag : Byte) (n : SwitchId) (e : Source), s.AtRest → s.running = false → e.Valid →
    s.Takes 0x10 tag (switchPayload (switchSource n) e) →
    exec (.setSwitch tag (switchPayload (switchSource n) e)) s =
      .next (queueReply tag (.done []) (s.taken.modScan fun u =>
        { u with
          sources := upd u.sources (switchSource n) fun _ => e
          switches := upd u.switches n fun _ =>
            { filtered := sensed s.scan.raw n e.inverted
              count := 0
              qualified := false
              stuck := false
              stuckAt :=
                if e.role = .playfield ∧ e.stuckTime ≠ 0 ∧ sensed s.scan.raw n e.inverted then
                  some (s.now + 1000 * e.stuckTime)
                else none } }))) ∧
  ∀ (s : State) (tag role polarity cls stuck : Byte) (x : SourceId) (offset : Nat) (report : Bool), s.AtRest →
    s.running = false → 72 ≤ x.val → offset ≤ 127 →
    s.Takes 0x10 tag [byte x.val, role, polarity, cls, byte offset, flagByte report, stuck] →
    exec (.setSwitch tag [byte x.val, role, polarity, cls, byte offset, flagByte report, stuck]) s =
      .next (queueReply tag (.done []) (s.taken.modScan fun u =>
        { u with sources := upd u.sources x fun y => { y with offset := offset, reportFlag := report } }))

/-- SET_FILTER (R3), SET_GAME (R187) and SET_THRESHOLD (R168): the values given replace those that stood, nothing else
changes, and the reply is DONE with no result. SET_THRESHOLD is taken in NO_GAME of RUNNING as well. -/
def Obligations.SetupTablesTakeTheirValues : Prop :=
  (∀ (s : State) (tag : Byte) (c : Fin 4) (x : FilterClass), s.AtRest → s.running = false → x.Valid →
    s.Takes 0x11 tag (filterPayload c x) →
    exec (.setFilter tag (filterPayload c x)) s = .next (queueReply tag (.done [])
      (s.taken.modScan fun u => { u with classes := upd u.classes c fun _ => x }))) ∧
  (∀ (s : State) (tag : Byte) (x : Settings), s.AtRest → s.running = false → x.Valid →
    s.Takes 0x13 tag (gamePayload x) →
    exec (.setGame tag (gamePayload x)) s = .next (queueReply tag (.done []) { s.taken with settings := x })) ∧
  ∀ (s : State) (tag : Byte) (k : Fin 3) (v : Nat), s.AtRest → (s.running = true → s.game.state = .noGame) →
    v ≤ 99999999999999 → s.Takes 0x16 tag (thresholdPayload k v) →
    exec (.setThreshold tag (thresholdPayload k v)) s = .next (queueReply tag (.done [])
      (s.taken.modScore fun u => { u with thresholds := upd u.thresholds k fun _ => v }))

/-- SET_DEVICE (R18, R19): the record is replaced, the copies are taken from the filtered states, the settled count becomes
0 and the settle timer starts (an UNUSED device has none). Nothing else of the part changes. -/
def Obligations.SetDeviceReplacesTheRecord : Prop :=
  ∀ (s : State) (tag : Byte) (d : DeviceId) (r : DeviceRecord), s.AtRest → s.running = false → r.Valid d →
    s.Takes 0x12 tag (devicePayload d r) →
    ∃ v : Device, exec (.setDevice tag (devicePayload d r)) s =
        .next (queueReply tag (.done []) (s.taken.modDevice d fun _ => v)) ∧
      v.record = r ∧ v.copies = r.switches.map (fun n => (s.switch n).filtered) ∧ v.settled = 0 ∧
      v.settleAt = (if r.kind = .unused then none else some (s.now + r.settle)) ∧
      v.held = (s.device d).held ∧ v.queue = (s.device d).queue ∧ v.eject = (s.device d).eject ∧
      v.attempts = (s.device d).attempts

/-- SET_MODE (R107, R108): the descriptor is replaced in SETUP, and in RUNNING while the mode has no frame on the stack or on
a carried list; otherwise it is refused with MODE_IN_USE, and nothing but the taking changes. -/
def Obligations.SetModeReplacesTheDescriptor : Prop :=
  ∀ (s : State) (tag : Byte) (m : ModeId) (d : Descriptor), s.AtRest → d.Valid → s.Takes 0x14 tag (modePayload m d) →
    exec (.setMode tag (modePayload m d)) s = .next
      (if s.running = true ∧ s.modeInUse m = true then queueReply tag (.refused .modeInUse) s.taken
      else queueReply tag (.done [])
        (s.taken.modMode fun u => { u with descriptors := upd u.descriptors m fun _ => d }))

/-- SET_POOL (R175): base, cap and scope are replaced. In SETUP, and where the scope changes, every value takes the new
base; otherwise every value is clamped into the new base and cap. The reply is DONE with the values after the command; that
a count byte stands before them is the model's reading of section 10.9 (log 24). -/
def Obligations.SetPoolSetsTheValues : Prop :=
  ∀ (s : State) (tag : Byte) (j : Fin 8) (base cap : Nat) (player : Bool), s.AtRest → base ≤ cap → cap ≤ 99999999 →
    s.Takes 0x15 tag (poolPayload j base cap player) →
    ∃ q : Pool, exec (.setPool tag (poolPayload j base cap player)) s =
        .next (queueReply tag (.done (counted valueBytes q.value.list)) (s.taken.modPool j fun _ => q)) ∧
      q.base = base ∧ q.cap = cap ∧ q.value.isPlayer = player ∧
      q.value.list =
        if s.running = true ∧ (s.pool j).value.isPlayer = player then
          (s.pool j).value.list.map fun v => max base (min cap v)
        else List.replicate (if player then 4 else 1) base

/-- LOAD_AWARDS (R144): 1 to 8 entries are written to consecutive addresses, every other entry of the table and everything
else stays as it was, and the reply is DONE with the number of entries written. -/
def Obligations.LoadAwardsWritesTheEntries : Prop :=
  ∀ (s : State) (tag : Byte) (a : Nat) (es : List Award), s.AtRest → s.awardsCanonical → 1 ≤ es.length → es.length ≤ 8 →
    a + es.length ≤ 1024 → (∀ e ∈ es, e.Valid) → s.Takes 0x17 tag (loadPayload a es) →
    ∃ table : List (Nat × Award), exec (.loadAwards tag (loadPayload a es)) s =
        .next (queueReply tag (.done [byte es.length]) (s.taken.modHit fun u => { u with awards := table })) ∧
      ∀ b, awardAt table b = if a ≤ b then es.getD (b - a) (awardAt s.hit.awards b) else awardAt s.hit.awards b

/-- RUN whose four checks pass (R45, R47, R189): the census is built from the settled counts, every ball not located is
missing, every eject machine in service leaves OFF, BALL_MISSING is set when a ball is missing, and the part is RUNNING. The
configuration, the switches and the game are as they were. -/
def Obligations.RunBuildsTheCensus : Prop :=
  ∀ (s : State) (tag : Byte), s.AtRest → s.running = false → s.game.state = .noGame → runFailure s = none →
    (∀ d, (s.device d).eject = .off) → s.Takes 0x18 tag [] →
    ∃ t, exec (.run tag []) s = .next t ∧ t.running = true ∧ t.track.free = 0 ∧
      t.track.missing = s.settings.installed - s.located ∧ t.track.search = .idle ∧
      t.track.lastActivity = s.track.lastActivity ∧
      (∀ d, (t.device d).record = (s.device d).record ∧ (t.device d).settled = (s.device d).settled ∧
        ((s.device d).used = true →
          (t.device d).held = List.replicate (s.device d).settled
            ⟨if d.val < 2 then .spare else .releasing, s.clock, none⟩ ∧
          (t.device d).suspect = false ∧ (t.device d).attempts = 0 ∧ (t.device d).eject ≠ .off ∧
          (2 ≤ d.val → (s.device d).settled ≠ 0 → (t.device d).queue = [⟨.release, (s.device d).settled⟩]))) ∧
      t.link.replies = s.link.replies ++
        [⟨tag, .done [byte s.located, byte (s.settings.installed - s.located)], s.link.reports.length⟩] ∧
      t.link.commands = s.link.commands.tail ∧ t.link.reports = s.link.reports ∧
      t.link.notices = (if s.located < s.settings.installed then s.link.notices ||| Notice.ballMissing.mask
        else s.link.notices) ∧
      t.game = s.game ∧ t.scan = s.scan ∧ t.settings = s.settings ∧ t.mode = s.mode ∧ t.hit = s.hit ∧
      t.score = s.score ∧ t.lock = s.lock

/-- RESTART (R190, with R44, R48, R65, R86, R129, R158, R172, R185, R199): the part returns to SETUP, its configuration, its
switches, its settled counts and its clock are kept, and everything of the census and of the game is cleared. -/
def Obligations.RestartKeepsTheConfiguration : Prop :=
  ∀ (s : State) (tag : Byte), s.AtRest → s.Takes 0x19 tag [] →
    ∃ t, exec (.restart tag []) s = .next t ∧
      t.settings = s.settings ∧ t.scan = s.scan ∧ t.now = s.now ∧ t.track.lastActivity = s.track.lastActivity ∧
      t.mode.descriptors = s.mode.descriptors ∧ t.hit.awards = s.hit.awards ∧
      t.score.thresholds = s.score.thresholds ∧
      (∀ j, t.pool j = (s.pool j).toBase) ∧
      (∀ d, (t.device d).record = (s.device d).record ∧ (t.device d).copies = (s.device d).copies ∧
        (t.device d).settled = (s.device d).settled ∧ (t.device d).settleAt = (s.device d).settleAt ∧
        (t.device d).held = [] ∧ (t.device d).queue = [] ∧ (t.device d).eject = .off ∧ (t.device d).attempts = 0 ∧
        (t.device d).suspect = false) ∧
      t.dev.launchAt = none ∧ t.dev.autoAt = none ∧ t.dev.late = .none ∧ t.dev.reconciling = false ∧
      t.track.free = 0 ∧ t.track.missing = 0 ∧ t.track.search = .idle ∧ t.game = .cold ∧ t.lock = .cold ∧
      t.mode.stack = [] ∧ (∀ p : PlayerId, t.mode.carried[p] = []) ∧ t.mode.serial = 0 ∧ t.hit.queue = [] ∧
      (∀ p v, t.var p v = 0) ∧
      t.link.state = .setup ∧ t.link.commands = [] ∧ t.link.reports = [] ∧ t.link.gap = 0 ∧
      t.link.mask = s.link.mask ∧ t.link.receiver = s.link.receiver ∧
      t.link.notices = (s.link.notices &&& 0xF0) ||| conditionBit .coilPowerLost (s.scan.power == .absent) |||
        conditionBit .switchStuck s.anyStuck ∧
      t.link.replies = s.link.replies.map (fun r => { r with mark := 0 }) ++
        [⟨tag, .done [byte (s.link.commands.length - 1)], 0⟩]

/-! ## The game commands -/

/-- START_GAME (R66, R67): the records of the players, the variables, the locks, the pools and the carried lists are cleared,
every ball held in a HOLD device is released, and ball 1 of player 1 starts: in READY when its ball lies in the lane, in
SERVING otherwise. The census does not change. With no search in progress and room in every request queue, the reports are
GAME_STARTED and BALL_STARTED. -/
def Obligations.StartGameStartsBallOne : Prop :=
  ∀ (s : State) (tag : Byte) (n : Nat), s.AtRest → s.running = true → s.game.state = .noGame → 1 ≤ n → n ≤ 4 →
    1 ≤ (s.device 0).tagged .spare → s.Takes 0x20 tag [byte n] →
    ∃ t, exec (.startGame tag [byte n]) s = .next t ∧
      t.game.state = (if s.laneReady then .ready else .serving) ∧ t.game.players = n ∧ t.game.current = some 0 ∧
      t.game.ball = 1 ∧ t.game.tilted = false ∧ t.game.lastWarning = none ∧ t.game.multiball = false ∧
      t.game.save = (if s.settings.saveSeconds = 0 then .off else .armed) ∧
      t.game.saveLeft = s.settings.saveSeconds * 1000 ∧
      (∀ p, t.record p = .cold) ∧ (∀ p v, t.var p v = 0) ∧ t.lock = .cold ∧ (∀ j, t.pool j = (s.pool j).toBase) ∧
      t.mode.serial = 0 ∧ (∀ p : PlayerId, t.mode.carried[p] = []) ∧ t.mode.descriptors = s.mode.descriptors ∧
      t.track.free = s.track.free ∧ t.track.missing = s.track.missing ∧ t.hit.queue = s.hit.queue ∧
      (∀ d, (t.device d).census = (s.device d).census) ∧
      (∀ d ∈ holdDevices, ∀ h ∈ (t.device d).held, h.tag = .releasing) ∧
      t.link.replies = s.link.replies ++ [⟨tag, .done [], t.link.reports.length⟩] ∧
      t.link.commands = s.link.commands.tail ∧
      (s.track.search = .idle → (∀ d, (s.device d).queue.length < 8) →
        t.link.reports =
          (queueReport (.ballStarted 1 1 n 0 false) (queueReport (.gameStarted n) s)).link.reports)

/-- ADD_PLAYER (R74): while a game is in progress at ball 1 with fewer than 4 players, the players rise by 1, PLAYER_ADDED
follows, and the reply is DONE with the players in game; nothing else changes. In RUNNING it is refused with NOT_ALLOWED in
NO_GAME, from ball 2 on and with 4 players, and in SETUP with WRONG_STATE. -/
def Obligations.AddPlayerAddsOne : Prop :=
  (∀ (s : State) (tag : Byte), s.AtRest → s.running = true → s.game.state ≠ .noGame → s.game.ball = 1 →
    s.game.players < 4 → s.Takes 0x21 tag [] →
    exec (.addPlayer tag []) s = .next (queueReply tag (.done [byte (s.game.players + 1)])
      (queueReport (.playerAdded (s.game.players + 1) (s.game.players + 1))
        (s.taken.modGame fun g => { g with players := s.game.players + 1 })))) ∧
  (∀ (s : State) (tag : Byte), s.AtRest → s.running = true →
    (s.game.state = .noGame ∨ 2 ≤ s.game.ball ∨ 4 ≤ s.game.players) → s.Takes 0x21 tag [] →
    exec (.addPlayer tag []) s = .next (queueReply tag (.refused .notAllowed) s.taken)) ∧
  ∀ (s : State) (tag : Byte), s.AtRest → s.running = false → s.Takes 0x21 tag [] →
    exec (.addPlayer tag []) s = .next (queueReply tag (.refused .wrongState) s.taken)

/-- ADVANCE_BALL in BALL_OVER (R72, R73): an extra ball pending is spent and the player shoots again; otherwise the next
player, or player 1 at the next ball, is served; past the last ball the game ends, and the locked balls are released. At
the ball start the frames that the player's carried list holds return (R124): each with the time, counter, advances and laps
it was suspended with, in the order they stood in, with the next serial numbers and fresh inherited factors, and each with
its MODE_STARTED behind BALL_STARTED. -/
def Obligations.AdvanceBallServesTheNextBall : Prop :=
  (∀ (s : State) (tag : Byte) (p : PlayerId), s.AtRest → s.running = true → s.game.state = .ballOver →
    s.game.current = some p → s.Takes 0x22 tag [] →
    ∃ t, exec (.advanceBall tag []) s = .next t ∧ t.game.players = s.game.players ∧
      t.track.free = s.track.free ∧ t.track.missing = s.track.missing ∧
      (∀ d, (t.device d).census = (s.device d).census) ∧ (∀ q, (t.record q).score = (s.record q).score) ∧
      t.link.commands = s.link.commands.tail ∧
      if 1 ≤ (s.record p).extraBalls then
        t.game.state = (if s.laneReady then .ready else .serving) ∧ t.game.current = some p ∧
        t.game.ball = s.game.ball ∧ (t.record p).extraBalls = (s.record p).extraBalls - 1 ∧
        (t.record p).fieldMult = 1 ∧ (t.record p).warnings = 0 ∧ t.game.tilted = false ∧
        t.link.replies = s.link.replies ++
          [⟨tag, .done [0, byte (p.val + 1), byte s.game.ball], t.link.reports.length⟩]
      else if (nextTurn s.game.players p s.game.ball).2 ≤ s.settings.ballsPerGame then
        t.game.state = (if s.laneReady then .ready else .serving) ∧
        t.game.current = some (nextTurn s.game.players p s.game.ball).1 ∧
        t.game.ball = (nextTurn s.game.players p s.game.ball).2 ∧ t.game.tilted = false ∧
        t.link.replies = s.link.replies ++
          [⟨tag, .done [1, byte ((nextTurn s.game.players p s.game.ball).1.val + 1),
            byte (nextTurn s.game.players p s.game.ball).2], t.link.reports.length⟩]
      else
        t.game.state = .noGame ∧ (∀ q : PlayerId, t.mode.carried[q] = []) ∧ t.game.records = s.game.records ∧
        (∀ d ∈ holdDevices, ∀ h ∈ (t.device d).held, h.tag.isLocked = false) ∧
        t.link.replies = s.link.replies ++ [⟨tag, .done [2, 0, 0], t.link.reports.length⟩]) ∧
  ∀ (s : State) (tag : Byte) (p q : PlayerId), s.AtRest → s.running = true → s.game.state = .ballOver →
    s.game.current = some p → s.Takes 0x22 tag [] → s.mode.stack = [] →
    (1 ≤ (s.record p).extraBalls ∧ q = p ∨
      (s.record p).extraBalls = 0 ∧ q = (nextTurn s.game.players p s.game.ball).1 ∧
        (nextTurn s.game.players p s.game.ball).2 ≤ s.settings.ballsPerGame) →
    (s.mode.carried[q]).Pairwise (fun c b => (s.descriptor b.mode).priority ≤ (s.descriptor c.mode).priority) →
    ∃ t, exec (.advanceBall tag []) s = .next t ∧ t.mode.descriptors = s.mode.descriptors ∧
      t.mode.carried[q] = [] ∧ (∀ k : PlayerId, k ≠ q → t.mode.carried[k] = s.mode.carried[k]) ∧
      t.mode.stack.map (fun f => (⟨f.mode, f.remaining, f.counter, f.since, f.laps⟩ : Carried)) = s.mode.carried[q] ∧
      (∀ (above below : List Frame) (f : Frame), t.mode.stack = above ++ f :: below →
        f.serial = min 65535 (s.mode.serial + below.length + 1) ∧
        f.inherited = min 99 (((below.take (s.descriptor f.mode).depth).map fun g => (s.descriptor g.mode).own).prod)) ∧
      (s.track.search = .idle → s.Queues
        (.ballStarted (q.val + 1) t.game.ball s.game.players (t.record q).extraBalls
            (decide (1 ≤ (s.record p).extraBalls)) ::
          t.mode.stack.reverse.map fun f =>
            .modeStarted (q.val + 1) f.mode f.serial .restored .restore 1 f.inherited f.remaining f.counter) t)

/-- END_GAME while a game is in progress (R75, R77): the abandon sequence. Ball save and multiball are cleared, every frame
on the stack and on a carried list is removed, every locked, parked and stray ball is released, no SERVE is left at the
trough and no LAUNCH at the lane but a head whose attempt is in progress, GAME_ENDED is queued, and the state becomes
NO_GAME. The records of the players are kept. That a LAUNCH head whose pulse was cut goes too while the launch confirmation
of that pulse stands open is the model's choice (log 50). -/
def Obligations.EndGameAbandonsTheGame : Prop :=
  ∀ (s : State) (tag : Byte), s.AtRest → s.running = true → s.game.state ≠ .noGame → s.Takes 0x23 tag [] →
    ∃ t, exec (.endGame tag []) s = .next t ∧ t.game.state = .noGame ∧ t.game.save = .off ∧ t.game.saveLeft = 0 ∧
      t.game.multiball = false ∧ t.game.players = s.game.players ∧ t.game.current = s.game.current ∧
      t.game.ball = s.game.ball ∧ t.game.tilted = s.game.tilted ∧ t.game.records = s.game.records ∧
      t.mode.stack = [] ∧ (∀ p : PlayerId, t.mode.carried[p] = []) ∧ t.lock = s.lock ∧ t.hit = s.hit ∧ t.score = s.score ∧
      t.track.free = s.track.free ∧ t.track.missing = s.track.missing ∧
      (∀ d, (t.device d).census = (s.device d).census) ∧
      (∀ d ∈ holdDevices, ∀ h ∈ (t.device d).held, h.tag ≠ .parked ∧ h.tag ≠ .stray ∧ h.tag.isLocked = false) ∧
      s.Withdraws 0 .serve t ∧ ((t.device 0).attempting = false → t.serves = 0) ∧ s.Withdraws 1 .launch t ∧
      t.link.replies = s.link.replies ++ [⟨tag, .done [], t.link.reports.length⟩] ∧
      t.link.commands = s.link.commands.tail ∧
      (s.track.search = .idle → (∀ d, (s.device d).queue.length < 8) →
        t.link.reports = (queueReport (.gameEnded .aborted s.game.players s.scores) s).link.reports)

/-- SET_PLAYFIELD_MULT with a game in progress (R162): the current player's playfield multiplier takes the value clamped into
1 to 9, and the reply tells the multiplier and whether it was clamped; nothing else changes. -/
def Obligations.SetPlayfieldMultClamps : Prop :=
  ∀ (s : State) (tag v : Byte) (p : PlayerId), s.AtRest → s.running = true → s.game.state ≠ .noGame →
    s.game.current = some p → s.Takes 0x24 tag [v] →
    exec (.setPlayfieldMult tag [v]) s = .next (queueReply tag
      (.done [byte (max 1 (min 9 v.toNat)), flagByte (decide (v.toNat < 1 ∨ 9 < v.toNat))])
      (s.taken.modRecord p fun r => { r with fieldMult := max 1 (min 9 v.toNat) }))

/-- START_SAVE (R81), by the rows of its table: in IN_PLAY it starts or lengthens a counting save and reports it, in SERVING
and READY it arms the larger time, and otherwise it changes nothing; the reply is the save state and the remaining time. -/
def Obligations.StartSaveNeverShortens : Prop :=
  ∀ (s : State) (tag v : Byte), s.AtRest → s.running = true → s.Takes 0x25 tag [v] →
    let time := min 30 v.toNat * 1000
    exec (.startSave tag [v]) s = .next
      (if s.game.state = .inPlay ∧ s.game.tilted = false ∧ s.game.save ≠ .counting ∧ time ≠ 0 then
        queueReply tag (.done (2 :: le16 time)) (queueReport (.saveStarted s.playerNo time)
          (s.taken.modGame fun g => { g with save := .counting, saveLeft := time }))
      else if s.game.state = .inPlay ∧ s.game.tilted = false ∧ s.game.save = .counting ∧ s.game.saveLeft < time then
        queueReply tag (.done (2 :: le16 time)) (queueReport (.saveStarted s.playerNo time)
          (s.taken.modGame fun g => { g with saveLeft := time }))
      else if (s.game.state = .serving ∨ s.game.state = .ready) ∧ s.game.tilted = false ∧ time ≠ 0 then
        queueReply tag (.done (1 :: le16 (max s.game.saveLeft time)))
          (s.taken.modGame fun g => { g with save := .armed, saveLeft := max s.game.saveLeft time })
      else queueReply tag (.done (s.game.save.code :: le16 s.game.saveLeft)) s.taken)

/-- LIGHT_LOCK at a lockable HOLD device with a game in progress (R87, R88): lit rises by 1 where lit and made leave room
under the goal, LOCK_LIT follows, and the reply tells lit, made and the clamped marker; nothing else changes. -/
def Obligations.LightLockLightsOne : Prop :=
  ∀ (s : State) (tag : Byte) (p : PlayerId) (d : DeviceId), s.AtRest → s.running = true → s.game.state ≠ .noGame →
    s.game.current = some p → 2 ≤ d.val → (s.device d).record.kind = .hold → (s.device d).record.lockable = true →
    s.Takes 0x26 tag [byte d.val] →
    let lock := s.lockAt p d
    let goal := (s.device d).record.goal
    let room := decide (lock.lit + lock.made < goal)
    let lit := if room then lock.lit + 1 else lock.lit
    exec (.lightLock tag [byte d.val]) s = .next (queueReply tag (.done [byte lit, byte lock.made, flagByte (!room)])
      (queueReport (.lockLit (p.val + 1) d lit lock.made goal (!room)) (s.taken.modLockAt p d fun _ => ⟨lit, lock.made⟩)))

/-- ADD_BALL (R99, R100): in IN_PLAY and READY with the ball not tilted, one SERVE is queued when a spare is unclaimed, which
the live count carries at once, and MULTIBALL_STARTED is queued either way; elsewhere it is taken with no effect. The reply
tells the balls served. -/
def Obligations.AddBallServesAnUnclaimedSpare : Prop :=
  (∀ (s : State) (tag : Byte), s.AtRest → s.running = true → s.playable = true → s.game.tilted = false →
    1 ≤ s.unclaimed → (s.device 0).eject ≠ .off → (s.device 0).queue.length < 8 →
    (∀ r ∈ (s.device 0).queue, r.count < 8) → s.Takes 0x27 tag [] →
    ∃ t, exec (.addBall tag []) s = .next t ∧ t.serves = s.serves + 1 ∧ t.track.free = s.track.free ∧
      (∀ d, (t.device d).held = (s.device d).held) ∧
      (s.game.state = .inPlay → 1 ≤ s.live → t.game.multiball = true) ∧ t.game.state = s.game.state ∧
      t.game.records = s.game.records ∧
      s.Queues [.multiballStarted .addBall s.playerNo none 0 1 1] t ∧
      (s.game.state = .ready ∨ 1 ≤ s.live → t.link.reports =
        (queueReport (.multiballStarted .addBall s.playerNo none 0 1 1) s).link.reports) ∧
      t.link.replies = s.link.replies ++ [⟨tag, .done [1], t.link.reports.length⟩] ∧
      t.link.commands = s.link.commands.tail) ∧
  (∀ (s : State) (tag : Byte), s.AtRest → s.running = true → s.playable = true → s.game.tilted = false →
    s.unclaimed = 0 → s.Takes 0x27 tag [] →
    exec (.addBall tag []) s = .next (queueReply tag (.done [0])
      (queueReport (.multiballStarted .addBall s.playerNo none 0 1 0) s.taken))) ∧
  ∀ (s : State) (tag : Byte), s.AtRest → s.running = true → s.game.state ≠ .noGame →
    (s.playable = false ∨ s.game.tilted = true) → s.Takes 0x27 tag [] →
    exec (.addBall tag []) s = .next (queueReply tag (.done [0]) s.taken)

/-- START_MODE by its outcomes (R110 to R117): a defined mode without a frame, with its group free and room on the stack, is
pushed below the frames of greater priority with the next serial number and the product of the own factors below it as its
inherited factor, and MODE_STARTED and a reply with serial, position and time follow; a refused start queues MODE_REFUSED
and changes nothing else; a start of a running mode is ignored, extends its time or restarts it; at a full stack a mode of
greater priority displaces the lowest frame. The mark `expiring`, the millisecond that a timed frame still owes, is the
model's own and stays (log 20). -/
def Obligations.StartModeHasItsOutcomes : Prop :=
  (∀ (s : State) (tag : Byte) (m : ModeId), s.AtRest → s.running = true → s.game.state ≠ .noGame →
    s.game.state ≠ .ballOver → s.game.tilted = false → (s.descriptor m).defined = true → s.frame m = none →
    s.groupHolder m = none → s.mode.stack.length < 8 → s.Takes 0x28 tag [byte m.val] →
    let d := s.descriptor m
    let above := s.mode.stack.takeWhile fun f => d.priority < (s.descriptor f.mode).priority
    let below := s.mode.stack.dropWhile fun f => d.priority < (s.descriptor f.mode).priority
    let frame : Frame :=
      { mode := m
        serial := min 65535 (s.mode.serial + 1)
        inherited := min 99 (((below.take d.depth).map fun f => (s.descriptor f.mode).own).prod)
        remaining := if d.duration = 0 then none else some (d.duration * 100)
        expiring := false
        counter := if d.counter = .count then d.goal else 0
        since := 0
        laps := 0 }
    exec (.startMode tag [byte m.val]) s = .next (queueReply tag
      (.done (0 :: le16 frame.serial ++ byte (above.length + 1) :: timeBytes frame.remaining))
      (queueReport (.modeStarted s.playerNo m frame.serial .pushed .command (above.length + 1) frame.inherited
          frame.remaining frame.counter)
        (s.taken.modMode fun u => { u with stack := above ++ frame :: below, serial := frame.serial })))) ∧
  (∀ (s : State) (tag : Byte) (m : ModeId) (o : StartOutcome) (holder : Option ModeId), s.AtRest → s.running = true →
    (if s.game.state = .noGame ∨ s.game.state = .ballOver then o = .noGame ∧ holder = none
      else if s.game.tilted then o = .tilted ∧ holder = none
      else if (s.descriptor m).defined = false then o = .notDefined ∧ holder = none
      else s.frame m = none ∧
        match s.groupHolder m with
        | some f => o = .groupBusy ∧ holder = some f.mode
        | none => o = .stackFull ∧ holder = none ∧ 8 ≤ s.mode.stack.length ∧
          ∀ low ∈ s.mode.stack.getLast?, (s.descriptor m).priority ≤ (s.descriptor low.mode).priority) →
    s.Takes 0x28 tag [byte m.val] →
    exec (.startMode tag [byte m.val]) s = .next (queueReply tag (.done (o.code :: List.replicate 7 0))
      (queueReport (.modeRefused s.playerNo m o .command holder) s.taken))) ∧
  (∀ (s : State) (tag : Byte) (m : ModeId) (f : Frame), s.AtRest → s.running = true → s.game.state ≠ .noGame →
    s.game.state ≠ .ballOver → s.game.tilted = false → (s.descriptor m).defined = true → s.frame m = some f →
    s.Takes 0x28 tag [byte m.val] →
    ∃ t, exec (.startMode tag [byte m.val]) s = .next t ∧ (∀ k, k ≠ m → t.frame k = s.frame k) ∧
      t.mode.serial = s.mode.serial ∧ t.game = s.game ∧
      t.frame m = some (match (s.descriptor m).policy with
        | .ignore => f
        | .extend =>
          { f with remaining := f.remaining.map fun r => min 600000 (r + (s.descriptor m).duration * 100) }
        | .restart =>
          { f with
            remaining := if (s.descriptor m).duration = 0 then none else some ((s.descriptor m).duration * 100)
            expiring := f.expiring && decide ((s.descriptor m).duration ≠ 0)
            counter := if (s.descriptor m).counter = .count then (s.descriptor m).goal else 0
            since := 0
            laps := 0 })) ∧
  ∀ (s : State) (tag : Byte) (m : ModeId) (others : List Frame) (low : Frame), s.AtRest → s.running = true →
    s.game.state ≠ .noGame → s.game.state ≠ .ballOver → s.game.tilted = false → (s.descriptor m).defined = true →
    s.frame m = none → s.groupHolder m = none → s.mode.stack = others ++ [low] → others.length = 7 →
    (∀ f ∈ others, f.mode ≠ low.mode) → (s.descriptor low.mode).priority < (s.descriptor m).priority →
    s.Takes 0x28 tag [byte m.val] →
    ∃ t, exec (.startMode tag [byte m.val]) s = .next t ∧ t.mode.stack.length = 8 ∧ t.frame low.mode = none ∧
      (∀ f ∈ others, f ∈ t.mode.stack) ∧ ∃ g, t.frame m = some g ∧ g.serial = min 65535 (s.mode.serial + 1)

/-- STOP_MODE (R120): naming the current player, by number or as player 0, a frame of the mode on the stack ends STOPPED,
and only without one a frame on the player's carried list is removed; naming another player, a frame on that player's list
is; where there is none the reply is NOT_RUNNING and nothing changes. The serial number 0 in the report of a carried frame
is the model's reading (log 24). -/
def Obligations.StopModeEndsTheFrame : Prop :=
  (∀ (s : State) (tag : Byte) (m : ModeId) (q : Nat) (f : Frame), s.AtRest → s.running = true → s.game.state ≠ .noGame →
    (q = 0 ∨ ∃ p : PlayerId, s.game.current = some p ∧ q = p.val + 1) → q ≤ s.game.players → s.frame m = some f →
    s.Takes 0x29 tag [byte m.val, byte q] →
    exec (.stopMode tag [byte m.val, byte q]) s = .next (queueReply tag (.done [0, 0])
      (queueReport (.modeEnded s.playerNo m f.serial .stopped f.counter f.laps f.remaining
          (s.mode.stack.filter (·.mode ≠ m)).length)
        (s.taken.modMode fun u => { u with stack := s.mode.stack.filter (·.mode ≠ m) })))) ∧
  ∀ (s : State) (tag : Byte) (m : ModeId) (q : Nat) (p : PlayerId), s.AtRest → s.running = true → s.game.state ≠ .noGame →
    (s.game.current = some p ∧ s.frame m = none ∧ (q = 0 ∨ q = p.val + 1) ∨ s.game.current ≠ some p ∧ q = p.val + 1) →
    q ≤ s.game.players → s.Takes 0x29 tag [byte m.val, byte q] →
    exec (.stopMode tag [byte m.val, byte q]) s = .next
      (match (s.mode.carried[p]).find? (·.mode = m) with
      | none => queueReply tag (.done [1, 0]) s.taken
      | some c => queueReply tag (.done [0, 1])
          (queueReport (.modeEnded (p.val + 1) m 0 .stopped c.counter c.laps c.remaining s.mode.stack.length)
            (s.taken.modMode fun u =>
              { u with carried := upd u.carried p fun l => l.filter (·.mode ≠ m) })))

/-- ADVANCE_MODE (R135 to R140, R154, R156): a COUNT frame falls by n and stays, a FREE frame rises by n, the advance counts
toward the report threshold, and the reply is ADVANCED with counter and laps; a FREE frame passing 9,999 has made a lap. A
COUNT frame brought to 0 ends COMPLETED: alone where it has no completion award, else with its award of fixed points
credited by the chain and a HIT report of source 255. Without a frame the reply is NOT_RUNNING and nothing changes. -/
def Obligations.AdvanceModeMovesTheCounter : Prop :=
  (∀ (s : State) (tag : Byte) (m : ModeId) (n : Nat) (f : Frame) (c : Nat), s.AtRest → s.running = true →
    s.frame m = some f → 1 ≤ n → n ≤ 255 →
    ((s.descriptor m).counter = .count ∧ n < f.counter ∧ c = f.counter - n ∨
      (s.descriptor m).counter = .free ∧ f.counter + n ≤ 9999 ∧ c = f.counter + n ∨
      (s.descriptor m).counter = .none ∧ c = f.counter) →
    s.Takes 0x2A tag [byte m.val, byte n] →
    ∃ t, exec (.advanceMode tag [byte m.val, byte n]) s = .next t ∧
      t.frame m = some { f with
        counter := c, since := if (s.descriptor m).threshold ≤ f.since + n then 0 else f.since + n } ∧
      (∀ k, k ≠ m → t.frame k = s.frame k) ∧
      t.link.reports = (if (s.descriptor m).threshold ≤ f.since + n then
        (queueReport (.modeProgress s.playerNo m f.serial c f.laps) s).link.reports else s.link.reports) ∧
      t.link.replies = s.link.replies ++ [⟨tag, .done (0 :: le16 c ++ [byte f.laps]), t.link.reports.length⟩] ∧
      t.game = s.game ∧ t.hit = s.hit ∧ t.score = s.score ∧ t.dev = s.dev ∧ t.track = s.track) ∧
  (∀ (s : State) (tag : Byte) (m : ModeId) (n : Nat) (f : Frame), s.AtRest → s.running = true →
    s.frame m = some f → 1 ≤ n → n ≤ 255 → (s.descriptor m).counter = .count → f.counter ≤ n →
    (s.descriptor m).completion = none → s.Takes 0x2A tag [byte m.val, byte n] →
    exec (.advanceMode tag [byte m.val, byte n]) s = .next (queueReply tag (.done [1, 0, 0, 0])
      (queueReport (.modeEnded s.playerNo m f.serial .completed 0 f.laps f.remaining
          (s.mode.stack.filter (·.mode ≠ m)).length)
        (s.taken.modMode fun u => { u with stack := s.mode.stack.filter (·.mode ≠ m) })))) ∧
  (∀ (s : State) (tag : Byte) (m : ModeId) (n : Nat) (f : Frame) (p : PlayerId) (a : Nat) (multiplied pass : Bool)
    (value bonus : Nat), s.AtRest → s.running = true → s.frame m = some f → 1 ≤ n → n ≤ 255 →
    (s.descriptor m).counter = .count → f.counter ≤ n → (s.descriptor m).completion = some a →
    s.game.current = some p → (s.record p).Bounded → value ≤ 99999999 → bonus ≤ 9999 →
    awardAt s.hit.awards a = .award .fixed multiplied pass value bonus .none .none →
    s.Takes 0x2A tag [byte m.val, byte n] →
    let product := (s.descriptor m).own * f.inherited * (s.record p).fieldMult
    let mult := if multiplied then min 99 product else 1
    let points := value * mult
    let score := min scoreMax ((s.record p).score + points)
    ∃ t, exec (.advanceMode tag [byte m.val, byte n]) s = .next t ∧
      t.mode.stack = s.mode.stack.filter (·.mode ≠ m) ∧ (t.record p).score = score ∧
      (t.record p).bonus = min bonusMax ((s.record p).bonus + bonus) ∧ (∀ q, q ≠ p → t.record q = s.record q) ∧
      t.hit = s.hit ∧ t.dev = s.dev ∧ t.track = s.track ∧
      t.link.replies = s.link.replies ++ [⟨tag, .done [1, 0, 0, 0], t.link.reports.length⟩] ∧
      (s.link.reports.length < 63 → ∃ more, t.link.reports = (queueReport
        (.hit ⟨255, s.clock, p.val + 1, .play, false, [],
          [⟨m, a, .completion, points, mult, multiplied && decide (99 < product), false⟩], points, score⟩)
        (queueReport (.modeEnded s.playerNo m f.serial .completed 0 f.laps f.remaining
          (s.mode.stack.filter (·.mode ≠ m)).length) s)).link.reports ++ more)) ∧
  (∀ (s : State) (tag : Byte) (m : ModeId) (n : Nat) (f : Frame), s.AtRest → s.running = true →
    s.frame m = some f → n ≤ 255 → (s.descriptor m).counter = .free → f.counter ≤ 9999 → 9999 < f.counter + n →
    (s.descriptor m).lap = none → s.Takes 0x2A tag [byte m.val, byte n] →
    ∃ t g, exec (.advanceMode tag [byte m.val, byte n]) s = .next t ∧ t.frame m = some g ∧
      g.counter = f.counter + n - 10000 ∧ g.laps = min 255 (f.laps + 1) ∧
      t.link.replies = s.link.replies ++
        [⟨tag, .done (0 :: le16 g.counter ++ [byte g.laps]), t.link.reports.length⟩] ∧
      t.game = s.game ∧ t.hit = s.hit ∧ t.score = s.score ∧ t.dev = s.dev ∧ t.track = s.track) ∧
  ∀ (s : State) (tag : Byte) (m : ModeId) (n : Nat), s.AtRest → s.running = true → s.frame m = none → 1 ≤ n →
    n ≤ 255 → s.Takes 0x2A tag [byte m.val, byte n] →
    exec (.advanceMode tag [byte m.val, byte n]) s = .next (queueReply tag (.done [2, 0, 0, 0]) s.taken)

/-- HIT (R15): in IN_PLAY and READY the hit of a virtual source is appended as a new entry with repeat count 1 and the
clock, and the reply tells the entries waiting; with 24 entries waiting it is refused with BUSY, in any other state with
WRONG_STATE, and for a source outside 80 to 95 with BAD_VALUE, and the queue is unchanged. That such a source is refused
with BAD_VALUE also while 24 entries wait is the model's choice (log 46). -/
def Obligations.HitAppendsAnEntry : Prop :=
  (∀ (s : State) (tag : Byte) (x : SourceId), s.AtRest → s.running = true → s.playable = true → 80 ≤ x.val →
    s.Takes 0x2B tag [byte x.val] →
    exec (.hit tag [byte x.val]) s = .next
      (if s.hit.queue.length < 24 then
        queueReply tag (.done [byte (s.hit.queue.length + 1)])
          (if (s.source x).reportFlag then
            queueReport (.switchChange x.val true false)
              (s.taken.modHit fun u => { u with queue := u.queue ++ [⟨x, s.clock, 1⟩] })
          else s.taken.modHit fun u => { u with queue := u.queue ++ [⟨x, s.clock, 1⟩] })
      else queueReply tag (.refused .busy) s.taken)) ∧
  (∀ (s : State) (tag v : Byte), s.AtRest → s.running = true → s.playable = true → (v.toNat < 80 ∨ 95 < v.toNat) →
    s.Takes 0x2B tag [v] → exec (.hit tag [v]) s = .next (queueReply tag (.refused .badValue) s.taken)) ∧
  ∀ (s : State) (tag v : Byte), s.AtRest → (s.running = false ∨ s.playable = false) → s.Takes 0x2B tag [v] →
    exec (.hit tag [v]) s = .next (queueReply tag (.refused .wrongState) s.taken)

/-- RETRY_DEVICE at a JAMMED device (R34): the attempt count returns to 0, UNJAMMED with cause RETRY is queued, and the device
makes its readiness test: it stands IDLE with an empty queue, and seeks a grant or waits for power with a ready head. No
ball moves, and the reply is DONE with no result. That it waits for power also while coil power is not yet known is the
model's choice (log 6). -/
def Obligations.RetryDeviceLeavesJammed : Prop :=
  ∀ (s : State) (tag : Byte) (d : DeviceId), s.AtRest → s.running = true → (s.device d).eject = .jammed →
    s.Takes 0x2C tag [byte d.val] →
    ∃ u : DeviceUnit, exec (.retryDevice tag [byte d.val]) s =
        .next (queueReply tag (.done []) (queueReport (.unjammed d .retry) { s.taken with dev := u })) ∧
      (∀ e : DeviceId, u.devices[e].record = (s.device e).record ∧ u.devices[e].held = (s.device e).held ∧
        u.devices[e].settled = (s.device e).settled) ∧
      u.devices[d].attempts = 0 ∧ u.devices[d].eject ≠ .jammed ∧
      ((s.device d).queue = [] → u.devices[d].eject = .idle ∧ u.devices[d].queue = []) ∧
      (s.ready d = true →
        if s.scan.power = .present then
          u.devices[d].eject = .waitCoil s.now ∨
            u.devices[d].eject = .pulsing (s.now + (s.device d).record.pulse) none
        else u.devices[d].eject = .waitPower)

/-- LAUNCH_BALL with the launch coil flag on (R43): in READY and IN_PLAY a LAUNCH is queued at the lane, which with its ball
lying there seeks a grant or waits for power, which while coil power is not yet known is the model's choice (log 6); in the
other states it is taken with no effect. Without the flag it is refused with NOT_ALLOWED. -/
def Obligations.LaunchBallQueuesALaunch : Prop :=
  (∀ (s : State) (tag : Byte), s.AtRest → s.running = true → s.playable = true →
    (s.device 1).record.launchCoil = true → (s.device 1).eject = .idle → (s.device 1).queue = [] →
    s.laneReady = true → s.Takes 0x2D tag [] →
    ∃ u : DeviceUnit, exec (.launchBall tag []) s = .next (queueReply tag (.done []) { s.taken with dev := u }) ∧
      u.devices[(1 : DeviceId)].queue = [⟨.launch, 1⟩] ∧
      (if s.scan.power = .present then
        u.devices[(1 : DeviceId)].eject = .waitCoil s.now ∨
          u.devices[(1 : DeviceId)].eject = .pulsing (s.now + (s.device 1).record.pulse) none
      else u.devices[(1 : DeviceId)].eject = .waitPower) ∧
      ∀ e : DeviceId, u.devices[e].held = (s.device e).held ∧ u.devices[e].record = (s.device e).record) ∧
  (∀ (s : State) (tag : Byte), s.AtRest → s.running = true → s.playable = false →
    (s.device 1).record.launchCoil = true → s.Takes 0x2D tag [] →
    exec (.launchBall tag []) s = .next (queueReply tag (.done []) s.taken)) ∧
  ∀ (s : State) (tag : Byte), s.AtRest → s.running = true → (s.device 1).record.launchCoil = false →
    s.Takes 0x2D tag [] → exec (.launchBall tag []) s = .next (queueReply tag (.refused .notAllowed) s.taken)

/-! ## The query commands -/

/-- The READ commands and IDENTIFY (R16, R62, R85, R128, R159, R176, R192, R202): each is answered with its result and
changes nothing but the taking and the reply. The bytes of READ_SWITCHES, two lists of 72 without a count, and the place of
the lists in the other results are the model's reading of section 10.9 (log 24), and so is the layout of READ_BALLS (log
23). -/
def Obligations.ReadCommandsChangeNothing : Prop :=
  ∀ (s : State) (tag : Byte), s.AtRest →
    (s.Takes 0x30 tag [] → exec (.identify tag []) s = .next (queueReply tag
      (.done [0x53, 62, 1, 1, if s.running then 1 else 0, byte s.clock.toNat, byte (s.clock.toNat / 256)]) s.taken)) ∧
    (∀ p : PlayerId, s.Takes 0x31 tag [byte (p.val + 1)] →
      exec (.readPlayer tag [byte (p.val + 1)]) s = .next (queueReply tag (.done (s.playerResult p)) s.taken)) ∧
    (s.Takes 0x32 tag [] → exec (.readStack tag []) s = .next (queueReply tag (.done s.stackResult) s.taken)) ∧
    (s.Takes 0x33 tag [] → exec (.readBalls tag []) s = .next (queueReply tag (.done s.ballsResult) s.taken)) ∧
    (s.Takes 0x34 tag [] → exec (.readSwitches tag []) s = .next (queueReply tag
      (.done ((List.finRange 72).map (fun n => flagByte (s.switch n).filtered) ++
        (List.finRange 72).map (fun n => flagByte (s.switch n).stuck) ++ [byte s.hit.queue.length])) s.taken)) ∧
    (s.Takes 0x35 tag [] → exec (.readPools tag []) s = .next (queueReply tag
      (.done ((List.finRange 8).flatMap (fun j => valueBytes (s.pool j).base ++ valueBytes (s.pool j).cap ++
          (s.pool j).value.scopeCode :: (s.pool j).value.list.flatMap valueBytes) ++
        (List.finRange 3).flatMap fun k => scoreBytes (s.score.thresholds[k]))) s.taken)) ∧
    (∀ (p : PlayerId) (v : Fin 16), s.Takes 0x36 tag [byte (p.val + 1), byte v.val] →
      exec (.readVar tag [byte (p.val + 1), byte v.val]) s =
        .next (queueReply tag (.done [byte (s.var p v), byte (s.var p v / 256)]) s.taken)) ∧
    (s.Takes 0x39 tag [] → exec (.readNotices tag []) s = .next (queueReply tag
      (.done [s.link.notices, s.link.mask, s.conditions, byte s.link.gap]) s.taken))

/-- WRITE_VAR and SWAP_VAR in RUNNING (R159, R160): the value, or where the variable holds the expected value the new value,
replaces the variable's value alone, and the reply carries the value before the command. -/
def Obligations.VariablesAreWrittenAndSwapped : Prop :=
  (∀ (s : State) (tag : Byte) (p : PlayerId) (v : Fin 16) (x : Nat), s.AtRest → s.running = true → x ≤ 65535 →
    s.Takes 0x37 tag (byte (p.val + 1) :: byte v.val :: le16 x) →
    exec (.writeVar tag (byte (p.val + 1) :: byte v.val :: le16 x)) s =
      .next (queueReply tag (.done (le16 (s.var p v))) (s.taken.modVar p v fun _ => x))) ∧
  ∀ (s : State) (tag : Byte) (p : PlayerId) (v : Fin 16) (expected x : Nat), s.AtRest → s.running = true →
    expected ≤ 65535 → x ≤ 65535 → s.Takes 0x38 tag (byte (p.val + 1) :: byte v.val :: (le16 expected ++ le16 x)) →
    exec (.swapVar tag (byte (p.val + 1) :: byte v.val :: (le16 expected ++ le16 x))) s =
      .next (queueReply tag (.done (flagByte (s.var p v == expected) :: le16 (s.var p v)))
        (if s.var p v = expected then s.taken.modVar p v (fun _ => x) else s.taken))

/-- CLEAR_NOTICES (R200) and SET_NOTICE_MASK (R201): of the notices named, an event notice is cleared, and a condition
notice is cleared when its condition does not hold; the mask is replaced whole. Each reply carries the flags or the mask
after the command, and nothing else changes. -/
def Obligations.NoticesAreClearedAndMasked : Prop :=
  (∀ (s : State) (tag named : Byte), s.AtRest → s.Takes 0x3A tag [named] →
    ∃ flags : Byte, exec (.clearNotices tag [named]) s =
        .next (queueReply tag (.done [flags]) (s.taken.modLink fun l => { l with notices := flags })) ∧
      ∀ n : Notice, flags.getLsbD n.bit =
        (s.link.notices.getLsbD n.bit && !(named.getLsbD n.bit && !s.conditions.getLsbD n.bit))) ∧
  (∀ (s : State) (tag mask : Byte), s.AtRest → s.Takes 0x3B tag [mask] →
    exec (.setNoticeMask tag [mask]) s =
      .next (queueReply tag (.done [mask]) (s.taken.modLink fun l => { l with mask := mask }))) ∧
  ∀ s : State, s.attnLow = true ↔
    s.resetHeld = false ∧ ∃ n : Notice, s.link.notices.getLsbD n.bit = true ∧ s.link.mask.getLsbD n.bit = true

/-- UNKNOWN_KIND and the lengths of the catalogue (R182 checks 1 and 2): a frame whose kind is not a command kind is refused
with UNKNOWN_KIND, and a command whose payload has not its kind's length with BAD_LENGTH; nothing but the taking and the
reply changes. -/
def Obligations.KindsAndLengthsAreChecked : Prop :=
  (∀ (s : State) (k tag : Byte) (p : List Byte), s.AtRest → isCommandKind k = false → s.Takes k tag p →
    exec (.unknownKind k tag p) s = .next (queueReply tag (.refused .unknownKind) s.taken)) ∧
  ∀ (s : State) (i : Instr) (k tag : Byte) (p : List Byte), s.AtRest → WellFormed i →
    hostFrame i = some (k, tag, p) → isCommandKind k = true → s.Takes k tag p →
    (match catalogueLength k with
      | some n => p.length ≠ n
      | none => p.length < 3 ∨ p.length ≠ 3 + 12 * byteAt p 2) →
    exec i s = .next (queueReply tag (.refused .badLength) s.taken)

/-! ## Switches and the time of the part -/

/-- ACCEPTED_CHANGE (R2, R7 to R9): a change that has qualified is accepted and goes where the role of its source sends it,
with its SWITCH_CHANGE report behind. A PLAYFIELD closure is activity, starts the stuck timer and is offered to the hit
queue while the game is IN_PLAY or READY; an opening ends both; a DEVICE change enters the copies and restarts the settle
timer of the devices that name the switch. That SWITCH_CHANGE stands behind the reports of the routing is the model's reading (log 7), and so is that
without a qualified change the row changes nothing (log 2). A PLAYFIELD closure while a search runs is in
`SearchGoesRoundAndGivesUp`. -/
def Obligations.AcceptedChangesAreRouted : Prop :=
  (∀ (s : State) (n : SwitchId), s.AtRest → (s.switch n).qualified = true →
    let x := s.source (switchSource n)
    let closed := !(s.switch n).filtered
    let moved : Switch := { s.switch n with filtered := closed, count := 0, qualified := false }
    let told := fun (flag : Bool) (t : State) => if flag then queueReport (.switchChange n.val closed false) t else t
    ((x.role = .inactive ∨ closed = false ∧ x.role ∈ [.start, .tilt, .slam]) →
      exec (.acceptedChange n) s = .next (told x.reportFlag (s.modSwitch n fun _ => moved))) ∧
    (x.role = .start → closed = true →
      exec (.acceptedChange n) s =
        .next (told x.reportFlag (queueReport .startPressed (s.modSwitch n fun _ => moved)))) ∧
    (x.role = .playfield → closed = false →
      exec (.acceptedChange n) s = .next (told (x.reportFlag || (s.switch n).stuck)
        (s.modSwitch n fun _ => { moved with stuck := false, stuckAt := none }))) ∧
    (x.role = .playfield → closed = true → s.track.search = .idle →
      let t := (s.modTrack fun u => { u with lastActivity := s.now }).modSwitch n fun _ =>
        { moved with stuckAt := if x.stuckTime = 0 then none else some (s.now + 1000 * x.stuckTime) }
      exec (.acceptedChange n) s =
        .next (told x.reportFlag (if s.running = true ∧ s.playable = true then offerClosure (switchSource n) t else t))) ∧
    (x.role = .device →
      exec (.acceptedChange n) s = .next (told x.reportFlag ((s.modSwitch n fun _ => moved).modDev fun u =>
        { u with devices := updAll u.devices fun _ v =>
            if n ∈ v.record.switches then
              { v with
                copies := List.zipWith (fun y c => if y = n then closed else c) v.record.switches v.copies
                settleAt := some (s.now + v.record.settle) }
            else v })))) ∧
  ∀ (s : State) (n : SwitchId), (s.switch n).qualified = false → exec (.acceptedChange n) s = .next s

/-- A closure of a TILT source (R78, R79): in SERVING, READY and IN_PLAY, not tilted and 1,000 ms after the last warning,
it is counted and reported; at the tilt limit the ball is tilted: every frame of the stack and of the player's carried list
is removed, ball save is OFF, every parked and stray ball is released, and the game goes on. A closure that is not counted
moves its switch alone. A closure of a SLAM source (R76) with a game in progress abandons the game. -/
def Obligations.TiltClosuresCount : Prop :=
  (∀ (s : State) (n : SwitchId) (p : PlayerId), s.AtRest → (s.switch n).qualified = true →
    (s.switch n).filtered = false → (s.source (switchSource n)).role = .tilt →
    (s.source (switchSource n)).reportFlag = false → s.game.current = some p →
    let moved : Switch := { s.switch n with filtered := true, count := 0, qualified := false }
    let w := (s.record p).warnings + 1
    let counts := s.game.state ∈ [.serving, .ready, .inPlay] ∧ s.game.tilted = false ∧
      ∀ t, s.game.lastWarning = some t → t + 1000 ≤ s.now
    (counts → w ≠ s.settings.tiltLimit →
      exec (.acceptedChange n) s = .next (queueReport (.tiltWarning (p.val + 1) w s.settings.tiltLimit)
        (((s.modSwitch n fun _ => moved).modRecord p fun r => { r with warnings := w }).modGame fun g =>
          { g with lastWarning := some s.now }))) ∧
    (counts → w = s.settings.tiltLimit →
      ∃ t, exec (.acceptedChange n) s = .next t ∧ t.game.tilted = true ∧ t.game.state = s.game.state ∧
        t.game.lastWarning = some s.now ∧ t.mode.stack = [] ∧ t.mode.carried[p] = [] ∧ t.game.save = .off ∧ t.game.saveLeft = 0 ∧
        t.record p = { s.record p with warnings := w } ∧ (∀ q, q ≠ p → t.record q = s.record q) ∧
        (∀ d ∈ holdDevices, ∀ h ∈ (t.device d).held, h.tag ≠ .parked ∧ h.tag ≠ .stray) ∧
        t.track.free = s.track.free ∧ t.lock = s.lock ∧ t.hit = s.hit ∧ t.score = s.score ∧
        ((∀ d, (s.device d).queue.length < 8) → t.link.reports =
          (queueReport (.tilted (p.val + 1) w)
            (queueReport (.tiltWarning (p.val + 1) w s.settings.tiltLimit) s)).link.reports)) ∧
    (¬counts → exec (.acceptedChange n) s = .next (s.modSwitch n fun _ => moved))) ∧
  ∀ (s : State) (n : SwitchId), s.AtRest → (s.switch n).qualified = true → (s.switch n).filtered = false →
    (s.source (switchSource n)).role = .slam → s.game.state ≠ .noGame →
    ∃ t, exec (.acceptedChange n) s = .next t ∧ t.game.state = .noGame ∧ t.game.save = .off ∧
      t.game.multiball = false ∧ t.mode.stack = [] ∧ (∀ p : PlayerId, t.mode.carried[p] = []) ∧
      t.game.records = s.game.records ∧
      ∀ d ∈ holdDevices, ∀ h ∈ (t.device d).held, h.tag ≠ .parked ∧ h.tag ≠ .stray ∧ h.tag.isLocked = false

/-- Stuck timers, ball save and modes expire. STUCK_TIMER_EXPIRY (R10) and SAVE_EXPIRY (R80) make their one change and queue
their report; that a save whose time has run still stands COUNTING with 0 left until SAVE_EXPIRY is the model's reading
(log 21). MODE_EXPIRY (R130, R132, R139, R156) takes the millisecond that the frame's mark owes, and the mark is the model's
own (log 20): with no more time left the frame ends EXPIRED, and its award, if it has one, is credited by the chain with a
HIT report of source 255; where the time has been set anew since the millisecond, one millisecond of it goes. -/
def Obligations.TimersExpireWithAReport : Prop :=
  (∀ (s : State) (n : SwitchId) (e : Nat), s.AtRest → (s.switch n).stuckAt = some e → e ≤ s.now →
    exec (.stuckTimerExpiry n) s = .next (queueReport (.switchChange n.val true true)
      ((s.modSwitch n fun w => { w with stuck := true, stuckAt := none }).notice .switchStuck))) ∧
  (∀ s : State, s.AtRest → s.game.save = .counting → s.game.saveLeft = 0 →
    exec .saveExpiry s = .next (queueReport (.saveEnded s.playerNo)
      (s.modGame fun g => { g with save := .off, saveLeft := 0 }))) ∧
  (∀ (s : State) (m : ModeId) (f : Frame) (r : Nat), s.AtRest → s.frame m = some f → f.expiring = true →
    f.remaining = some r → r ≤ 1 → s.game.state = .inPlay → 1 ≤ s.track.free → s.game.tilted = false →
    (s.descriptor m).expiry = none →
    exec (.modeExpiry m) s = .next (queueReport (.modeEnded s.playerNo m f.serial .expired f.counter f.laps (some 0)
        (s.mode.stack.filter (·.mode ≠ m)).length)
      (s.modMode fun u => { u with stack := s.mode.stack.filter (·.mode ≠ m) }))) ∧
  (∀ (s : State) (m : ModeId) (f : Frame) (r : Nat), s.AtRest → s.frame m = some f → f.expiring = true →
    f.remaining = some r → 2 ≤ r → s.game.state = .inPlay → 1 ≤ s.track.free → s.game.tilted = false →
    exec (.modeExpiry m) s = .next (s.modMode fun u => { u with
      stack := s.mode.stack.map fun g =>
        if g.mode = m then { g with remaining := g.remaining.map (· - 1), expiring := false } else g })) ∧
  ∀ (s : State) (m : ModeId) (f : Frame) (r : Nat) (p : PlayerId) (a : Nat) (multiplied pass : Bool) (value bonus : Nat),
    s.AtRest → s.frame m = some f → f.expiring = true → f.remaining = some r → r ≤ 1 → s.game.state = .inPlay →
    1 ≤ s.track.free → s.game.tilted = false → (s.descriptor m).expiry = some a → s.game.current = some p →
    (s.record p).Bounded → value ≤ 99999999 → bonus ≤ 9999 →
    awardAt s.hit.awards a = .award .fixed multiplied pass value bonus .none .none →
    let product := (s.descriptor m).own * f.inherited * (s.record p).fieldMult
    let mult := if multiplied then min 99 product else 1
    let points := value * mult
    let score := min scoreMax ((s.record p).score + points)
    ∃ t, exec (.modeExpiry m) s = .next t ∧ t.mode.stack = s.mode.stack.filter (·.mode ≠ m) ∧
      (t.record p).score = score ∧ (t.record p).bonus = min bonusMax ((s.record p).bonus + bonus) ∧
      (∀ q, q ≠ p → t.record q = s.record q) ∧ t.hit = s.hit ∧ t.dev = s.dev ∧ t.track = s.track ∧
      s.Queues [.modeEnded s.playerNo m f.serial .expired f.counter f.laps (some 0)
          (s.mode.stack.filter (·.mode ≠ m)).length,
        .hit ⟨255, s.clock, p.val + 1, .play, false, [],
          [⟨m, a, .expiry, points, mult, multiplied && decide (99 < product), false⟩], points, score⟩] t

/-- The counts that MILLISECOND_TICK moves (R1, R2, R35, R80, R130), where no event stands due: the clock advances by 1, each
switch is sampled at its filter and none changes its filtered state, the readings of COIL_PWR are counted, a COUNTING save
and the running frames lose a millisecond, and a frame in its last millisecond is marked for its expiry. The first sample
after a cold reset gives the filtered states. Nothing else changes. That due events are taken before the millisecond is the
model's choice (log 3), that a frame in its last millisecond keeps 1 under the mark `expiring` is its reading (log 20), and
that the first sample replaces a filtered state that a SET_SWITCH has given before it is its choice (log 5). -/
def Obligations.TickCountsAMillisecond : Prop :=
  (∀ (s : State) (raw : BitVec 72) (high : Bool), s.resetHeld = false → takeOverdue s = s →
    ∃ t, exec (.millisecondTick raw high) s = .next t ∧ t.now = s.now + 1 ∧ t.scan.raw = raw ∧ t.scan.sampled = true ∧
      (∀ n : SwitchId, s.scan.sampled = true →
        let x := s.source (switchSource n)
        let differs := xor (xor (raw.getLsbD n.val) x.inverted) (s.switch n).filtered
        let required := if (s.switch n).filtered then (s.scan.classes[x.cls]).openTime else (s.scan.classes[x.cls]).closeTime
        t.switch n = { s.switch n with
          count := if differs then min 255 ((s.switch n).count + 1) else 0
          qualified := differs && decide (required ≤ (s.switch n).count + 1) }) ∧
      (∀ n : SwitchId, s.scan.sampled = false →
        t.switch n = { s.switch n with
          filtered := raw.getLsbD n.val
          count := 0
          qualified := false
          stuckAt := if raw.getLsbD n.val then (s.switch n).stuckAt else none }) ∧
      t.scan.highRun = (if high then min 10 (s.scan.highRun + 1) else 0) ∧
      t.scan.lowRun = (if high then 0 else min 10 (s.scan.lowRun + 1)) ∧ t.scan.power = s.scan.power ∧
      t.scan.sources = s.scan.sources ∧ t.scan.classes = s.scan.classes ∧
      t.game = { s.game with
        saveLeft := if s.game.save = .counting then s.game.saveLeft - 1 else s.game.saveLeft } ∧
      t.mode = { s.mode with stack := s.mode.stack.map fun f =>
        if s.game.state = .inPlay ∧ 1 ≤ s.track.free ∧ s.game.tilted = false then
          match f.remaining with
          | none => f
          | some r => if r ≤ 1 then { f with expiring := true } else { f with remaining := some (r - 1) }
        else f } ∧
      t.dev = s.dev ∧ t.track = s.track ∧ t.hit = s.hit ∧ t.score = s.score ∧ t.lock = s.lock ∧ t.link = s.link ∧
      t.settings = s.settings) ∧
  ∀ (s : State) (raw : BitVec 72) (high : Bool), s.resetHeld = false →
    ∃ t, exec (.millisecondTick raw high) s = .next t ∧ t.now = s.now + 1

/-! ## Devices -/

/-- SETTLE_TIMER_EXPIRY at a device that is OFF and captures at a hold device (R19, R20, R22, R52, R55, R90 to R95): the
settled count is taken; a capture moves a free ball into the device with the tag of the entry decision. A lock uses one lit
lock; it is replaced by a serve, or without a spare released again with LOCK_DISPLACED; a full device makes room; the lock
that meets the goal starts a lock multiball. That a ball parked with hold time 0 is RELEASING when the event has been taken
is the model's reading (log 34). -/
def Obligations.SettledBallsAreCaptured : Prop :=
  (∀ (s : State) (d : DeviceId) (e : Nat), s.AtRest → (s.device d).settleAt = some e → e ≤ s.now →
    (s.device d).eject = .off →
    exec (.settleTimerExpiry d) s = .next (s.modDevice d fun v =>
      { v with
        settled := v.closed
        settleAt := none
        suspect := v.suspect && decide (v.closed ≠ v.held.length) })) ∧
  (∀ (s : State) (d : DeviceId) (e : Nat), s.AtRest → s.running = true → 2 ≤ d.val → (s.device d).settleAt = some e →
    e ≤ s.now → (s.device d).eject = .idle → s.track.search = .idle → (s.device d).closed = (s.device d).settled + 1 →
    1 ≤ s.track.free → (∀ p, s.decide d ≠ .lock p) →
    ∃ t, exec (.settleTimerExpiry d) s = .next t ∧ (t.device d).settled = (s.device d).closed ∧
      t.track.free = s.track.free - 1 ∧ t.track.missing = s.track.missing ∧ t.track.lastActivity = s.now ∧
      (t.device d).held = (s.device d).held ++
        [⟨if s.game.state = .inPlay ∧ s.game.tilted = false ∧ (s.device d).record.hold ≠ 0 then .parked else .releasing,
          s.clock,
          if s.game.state = .inPlay ∧ s.game.tilted = false ∧ (s.device d).record.hold ≠ 0 then
            some (s.now + (s.device d).record.hold) else none⟩] ∧
      (∀ c, c ≠ d → (t.device c).held = (s.device c).held) ∧ t.game.state = s.game.state ∧
      (s.playable = true → s.hit.queue.length < 24 →
        t.hit.queue = s.hit.queue ++ [⟨deviceSource d, s.clock, 1⟩]) ∧ t.lock = s.lock) ∧
  ∀ (s : State) (d : DeviceId) (e : Nat) (p : PlayerId), s.AtRest → s.running = true → 2 ≤ d.val →
    (s.device d).settleAt = some e → e ≤ s.now → (s.device d).eject = .idle → s.track.search = .idle →
    (s.device d).closed = (s.device d).settled + 1 → 1 ≤ s.track.free → s.game.state = .inPlay → s.game.tilted = false →
    s.game.current = some p → (s.device d).record.kind = .hold → (s.device d).record.lockable = true →
    1 ≤ (s.lockAt p d).lit → (∀ c, (s.device c).queue.length < 8) →
    let made := (s.lockAt p d).made + 1
    let goal := (s.device d).record.goal
    let here : List Held := (s.device d).held ++ [⟨.locked p, s.clock, none⟩]
    let locked : List Report :=
      [.ballIn d (.locked p) here.length, .lockMade (p.val + 1) d ((s.lockAt p d).lit - 1) made goal]
    ∃ t, exec (.settleTimerExpiry d) s = .next t ∧ t.track.free = s.track.free - 1 ∧ s.Queues locked t ∧
      (∀ q c, q ≠ p ∨ c ≠ d → t.lockAt q c = s.lockAt q c) ∧
      (made < goal → t.lockAt p d = ⟨(s.lockAt p d).lit - 1, made⟩) ∧
      (made < goal → 1 ≤ s.unclaimed →
        ((s.device 0).eject ≠ .off → (∀ r ∈ (s.device 0).queue, r.count < 8) → t.serves = s.serves + 1) ∧
        (here.length ≠ (s.device d).record.capacity → (t.device d).held = here) ∧
        (here.length = (s.device d).record.capacity → (∀ h ∈ here, h.tag ≠ .releasing) →
          ∀ (before after : List Held) (h : Held), here = before ++ h :: after →
            (∀ x ∈ before, x.tag = .locked p) → (h.tag ≠ .locked p ∨ before = [] ∧ ∀ x ∈ after, x.tag = .locked p) →
            (t.device d).held = before ++ { h with tag := .releasing, holdAt := none } :: after ∧
              ∀ q, h.tag = .locked q →
                s.Queues (locked ++ [.lockDisplaced d (q.val + 1) .makeRoom (t.lockAt q d).made (t.physical q d)]) t)) ∧
      (made < goal → s.unclaimed = 0 →
        (t.device d).held = (s.device d).held ++ [⟨.releasing, s.clock, none⟩] ∧
          s.Queues (locked ++ [.lockDisplaced d (p.val + 1) .noSpare made (s.physical p d)]) t) ∧
      (made = goal →
        let released := s.physical p d + 1
        let served := min (made - released) s.unclaimed
        t.lockAt p d = ⟨0, 0⟩ ∧
        (t.device d).held = here.map (fun h =>
          if h.tag = .locked p then { h with tag := .releasing, holdAt := none } else h) ∧
        ((s.device 0).eject ≠ .off → served ≤ 8 → (∀ r ∈ (s.device 0).queue, r.count + served ≤ 8) →
          t.serves = s.serves + served ∧
            s.Queues (locked ++ [.multiballStarted .lock (p.val + 1) (some d) released (made - released) served]) t) ∧
        (s.live < t.live → 2 ≤ t.live → t.game.multiball = true))

/-- A settled increase of the trough is a drain (R22, R52, R71, R80, R82, R83, R171): a free ball becomes a SPARE. While ball
save is COUNTING it is served again; else the drain of the last live ball in play ends the ball, which settles the bonus of
the player. The frames with the CARRY flag go to the back of the player's carried list in stack order, each with its time,
counter, advances and laps (R123). Two drains of one settled change are told one after another (R20, R50): in a multiball
of two the first ends the multiball and the second the ball. -/
def Obligations.DrainsEndTheBallOrAreSaved : Prop :=
  (∀ (s : State) (e : Nat), s.AtRest → s.running = true → (s.device 0).settleAt = some e → e ≤ s.now →
    (s.device 0).eject = .idle → s.dev.reconciling = false → (s.device 0).closed = (s.device 0).settled + 1 →
    1 ≤ s.track.free → s.game.state = .inPlay →
    ∃ t, exec (.settleTimerExpiry 0) s = .next t ∧ t.track.free = s.track.free - 1 ∧
      t.track.missing = s.track.missing ∧ (t.device 0).held = (s.device 0).held ++ [⟨.spare, s.clock, none⟩] ∧
      (s.game.save = .counting → (s.device 0).queue.length < 8 → (∀ r ∈ (s.device 0).queue, r.count < 8) →
        t.serves = s.serves + 1 ∧ t.game.state = .inPlay) ∧
      (s.game.save ≠ .counting → 2 ≤ s.live → t.game.state = .inPlay ∧ t.game.records = s.game.records) ∧
      (s.game.save ≠ .counting → s.live = 1 → t.game.state = .ballOver ∧ t.mode.stack = [] ∧ t.game.save = .off ∧
        t.game.multiball = false ∧
        (∀ p : PlayerId, s.game.current = some p → t.mode.carried[p] = s.mode.carried[p] ++
          (s.mode.stack.filter fun f => (s.descriptor f.mode).carry).map fun f =>
            ⟨f.mode, f.remaining, f.counter, f.since, f.laps⟩) ∧
        (∀ q : PlayerId, s.game.current ≠ some q → t.mode.carried[q] = s.mode.carried[q]) ∧
        ∀ p, s.game.current = some p → (s.record p).Bounded →
          (t.record p).bonus = 0 ∧ (t.record p).bonusMult = 1 ∧
          (t.record p).score = if s.game.tilted then (s.record p).score
            else min scoreMax ((s.record p).score + (s.record p).bonus * (s.record p).bonusMult))) ∧
  ∀ (s : State) (e : Nat), s.AtRest → s.running = true → (s.device 0).settleAt = some e → e ≤ s.now →
    (s.device 0).eject = .idle → s.dev.reconciling = false → (s.device 0).closed = (s.device 0).settled + 2 →
    2 ≤ s.track.free → s.game.state = .inPlay → s.game.save ≠ .counting → s.game.multiball = true → s.live = 2 →
    s.track.search = .idle → (s.source (deviceSource 0)).reportFlag = false →
    ∃ t, exec (.settleTimerExpiry 0) s = .next t ∧ t.game.state = .ballOver ∧ t.game.multiball = false ∧
      t.track.free = s.track.free - 2 ∧
      (t.device 0).held = (s.device 0).held ++ [⟨.spare, s.clock, none⟩, ⟨.spare, s.clock, none⟩] ∧
      s.Queues [.ballIn 0 .spare ((s.device 0).held.length + 1), .multiballOver s.playerNo] t

/-- Balls that come and go outside the plan of the game, and served balls. A served ball reaches the shooter lane (R36
outcome 1, R68): a SPARE moves from the trough to the lane in one change, and SERVING becomes READY. The trough's confirm
window ends with a lost serve or a failed one (R36 outcomes 2 and 3, R33). A decrease after a failed serve is a late exit
(R38), and the trough is reconciled when its attempt is over (R37). With no ball free, an entry is a found ball or is
refused as a phantom (R53, R54); an unexpected exit takes the entry that R23 names, or is set against an excess. The model
reads these points out of the rules: a window that ends with the lane at 1 as an excess is judged by the trough's counts
alone (log 40), a late exit opens in IDLE too (log 14) and where the trough has an excess (log 42), and a found ball at a
hold time of 0 is RELEASING when the event has been taken (log 34). -/
def Obligations.ServesReachTheLane : Prop :=
  (∀ (s : State) (e : Nat) (k : Nat) (rest : List Request) (before after : List Held) (h : Held), s.AtRest →
    s.running = true → (s.device 1).settleAt = some e → e ≤ s.now → (s.device 1).eject = .idle →
    (s.device 1).settled = 0 → (s.device 1).closed = 1 → s.dev.launchAt = none → (s.device 0).attempting = true →
    s.dev.late ≠ .lostOnly → (s.device 0).queue = ⟨.serve, k + 1⟩ :: rest →
    (s.device 0).held = before ++ h :: after → h.tag = .spare → (∀ x ∈ before, x.tag ≠ .spare) →
    (s.device 0).settleAt = none → (s.device 0).settled + 1 = (s.device 0).held.length →
    ∃ t, exec (.settleTimerExpiry 1) s = .next t ∧ (t.device 0).held = before ++ after ∧
      (t.device 1).held = (s.device 1).held ++ [⟨.spare, s.clock, none⟩] ∧ t.track.free = s.track.free ∧
      t.track.missing = s.track.missing ∧ (t.device 0).attempts = 0 ∧
      t.game.state = (if s.game.state = .serving then .ready else s.game.state)) ∧
  (∀ (s : State) (e k : Nat) (x : Option Nat) (rest : List Request) (before after : List Held) (h : Held), s.AtRest →
    s.running = true → (s.device 0).eject = .confirming (some e) x → e ≤ s.now → s.dev.late = .none →
    (s.device 0).queue = ⟨.serve, k + 1⟩ :: rest → (s.device 0).held = before ++ h :: after → h.tag = .spare →
    (∀ y ∈ before, y.tag ≠ .spare) → (s.device 0).settled + 1 = (s.device 0).held.length →
    ∃ t, exec (.confirmWindowEnd 0) s = .next t ∧ (t.device 0).held = before ++ after ∧
      t.track.free = s.track.free + 1 ∧ t.track.missing = s.track.missing ∧ (t.device 0).attempts = 0 ∧
      (s.game.state = .serving → t.game.state = .inPlay) ∧
      t.dev.reconciling = (s.device 0).settleAt.isSome ∧
      (s.track.search = .idle → s.Queues [.ballOut 0 .spare .unexpected (before.length + after.length)] t)) ∧
  (∀ (s : State) (e : Nat) (x : Option Nat) (r : Request) (rest : List Request), s.AtRest → s.running = true →
    (s.device 0).eject = .confirming (some e) x → e ≤ s.now → s.dev.late = .none → (s.device 0).queue = r :: rest →
    1 ≤ r.count → (s.device 0).settled = (s.device 0).held.length →
    ∃ t, exec (.confirmWindowEnd 0) s = .next t ∧ (∀ d, (t.device d).held = (s.device d).held) ∧
      t.track.free = s.track.free ∧ t.track.missing = s.track.missing ∧ t.game.state = s.game.state ∧
      (t.device 0).attempts = (s.device 0).attempts + 1 ∧
      (if (s.device 0).attempts + 1 < 4 then (t.device 0).eject = .recovering (s.now + 200)
      else (t.device 0).eject = .jammed ∧ t.link.notices.getLsbD Notice.deviceJammed.bit = true) ∧
      s.Queues [.ejectFailed 0 r.purpose ((s.device 0).attempts + 1) .noExit] t) ∧
  (∀ (s : State) (e k : Nat) (rest : List Request), s.AtRest → s.running = true → (s.device 0).settleAt = some e →
    e ≤ s.now → s.dev.reconciling = false → (s.device 0).queue = ⟨.serve, k⟩ :: rest → 1 ≤ (s.device 0).attempts →
    (s.device 0).attempting = false → (s.device 0).eject ≠ .off → (s.device 0).closed < (s.device 0).settled →
    ∃ t, exec (.settleTimerExpiry 0) s = .next t ∧ (∀ d, (t.device d).held = (s.device d).held) ∧ t.track = s.track ∧
      t.game = s.game ∧ (t.device 0).eject = .confirming (some (s.now + (s.device 0).record.confirm)) none ∧
      t.dev.late = (if 1 ≤ (s.device 1).census ∨ s.dev.launchAt ≠ none then .lostOnly else .judged) ∧
      ((s.device 0).eject = .jammed → s.Queues [.unjammed 0 .exit] t)) ∧
  (∀ (s : State) (e : Nat), s.AtRest → s.running = true → (s.device 0).settleAt = some e → e ≤ s.now →
    s.dev.reconciling = true → (s.device 0).attempting = false → (s.device 0).eject ≠ .off →
    (∀ h ∈ (s.device 0).held, h.tag = .spare) →
    ∃ t, exec (.settleTimerExpiry 0) s = .next t ∧ t.dev.reconciling = false ∧
      ((s.device 0).closed = (s.device 0).held.length →
        (t.device 0).held = (s.device 0).held ∧ t.track.free = s.track.free) ∧
      ((s.device 0).closed = (s.device 0).held.length + 1 → 1 ≤ s.track.free →
        (t.device 0).held = (s.device 0).held ++ [⟨.spare, s.clock, none⟩] ∧ t.track.free = s.track.free - 1) ∧
      ((s.device 0).closed + 1 = (s.device 0).held.length →
        (t.device 0).held = (s.device 0).held.tail ∧ t.track.free = s.track.free + 1) ∧
      ((s.device 0).closed ≤ (s.device 0).held.length → t.track.missing = s.track.missing)) ∧
  (∀ (s : State) (d : DeviceId) (e : Nat), s.AtRest → s.running = true → d ≠ 1 → (s.device d).settleAt = some e →
    e ≤ s.now → (s.device d).eject = .idle → (d = 0 → s.dev.reconciling = false) → s.track.search = .idle →
    (s.device d).closed = (s.device d).settled + 1 → s.track.free = 0 →
    ∃ t, exec (.settleTimerExpiry d) s = .next t ∧ t.track.free = 0 ∧ t.track.lastActivity = s.now ∧
      (∀ c, c ≠ d → (t.device c).held = (s.device c).held) ∧
      if s.track.missing = 0 then
        (t.device d).held = (s.device d).held ∧ (t.device d).suspect = true ∧ t.track.missing = 0 ∧
          t.link.notices.getLsbD Notice.phantomEntry.bit = true ∧
          s.Queues [.phantom d (s.device d).closed (s.device d).held.length] t
      else
        t.track.missing = s.track.missing - 1 ∧
        (t.device d).held = (s.device d).held ++
          [if d = 0 then ⟨.spare, s.clock, none⟩
            else if (s.device d).record.hold = 0 then ⟨.releasing, s.clock, none⟩
            else ⟨.stray, s.clock, some (s.now + (s.device d).record.hold)⟩] ∧
        s.Queues [.ballFound d (s.track.missing - 1),
          .ballIn d (if d = 0 then .spare else .stray) ((s.device d).held.length + 1)] t) ∧
  ∀ (s : State) (d : DeviceId) (e : Nat) (before after : List Held) (h : Held), s.AtRest → s.running = true → d ≠ 1 →
    (s.device d).settleAt = some e → e ≤ s.now → (s.device d).eject = .idle →
    (d = 0 → s.dev.reconciling = false ∧ (s.device 0).attempts = 0) → s.track.search = .idle →
    (s.device d).closed + 1 = (s.device d).settled → (s.device d).held = before ++ h :: after →
    (∀ x ∈ before, exitRank h.tag < exitRank x.tag) → (∀ x ∈ after, exitRank h.tag ≤ exitRank x.tag) →
    ∃ t, exec (.settleTimerExpiry d) s = .next t ∧ t.track.missing = s.track.missing ∧
      (∀ c, c ≠ d → (t.device c).held = (s.device c).held) ∧
      if (s.device d).held.length < (s.device d).settled then
        (t.device d).held = (s.device d).held ∧ t.track.free = s.track.free
      else
        (t.device d).held = before ++ after ∧ t.track.free = s.track.free + 1 ∧
        s.Queues (.ballOut d h.tag .unexpected (before.length + after.length) ::
          match h.tag with
          | .locked q => [.lockDisplaced d (q.val + 1) .exit (s.lockAt q d).made (t.physical q d)]
          | _ => []) t

/-- HOLD_TIMER_EXPIRY (R24), PULSE_END (R29), RECOVERY_END (R33) and SPACING_END (R32) change the Ball Device Controller alone:
the oldest entry whose hold timer is due is retagged RELEASING with a RELEASE queued; an attempt's confirm window opens; a
device whose pause ends makes its readiness test. The end of a SEARCH pulse (R31) takes one of the head's count without a
confirm window or a failure, and the device makes its readiness test. Another device changes only by a grant that goes to
it; no ball moves. That a ready device waits for power also while coil power is not yet known is the model's choice (log
6). -/
def Obligations.DeviceTimersMoveTheMachine : Prop :=
  (∀ (s : State) (d : DeviceId) (before after : List Held) (h : Held) (e : Nat), s.AtRest →
    (s.device d).held = before ++ h :: after → (h.tag = .parked ∨ h.tag = .stray) → h.holdAt = some e → e ≤ s.now →
    (∀ x ∈ before, ∀ u, x.holdAt = some u → s.now < u) → (s.device d).queue.length < 8 →
    ∃ u : DeviceUnit, exec (.holdTimerExpiry d) s = .next { s with dev := u } ∧
      u.devices[d].held = before ++ { h with tag := .releasing, holdAt := none } :: after ∧
      (∀ c : DeviceId, c ≠ d → u.devices[c] = s.device c ∨
        (∃ w, (s.device c).eject = .waitCoil w) ∧
          u.devices[c] = { s.device c with eject := .pulsing (s.now + (s.device c).record.pulse) none }) ∧
      u.devices[d].record = (s.device d).record ∧ u.devices[d].settled = (s.device d).settled ∧
      ((s.device d).queue = [] → (s.device d).eject = .idle → u.devices[d].queue = [⟨.release, 1⟩] ∧
        u.devices[d].eject ≠ .idle)) ∧
  (∀ (s : State) (d : DeviceId) (e : Nat) (x : Option Nat), s.AtRest → (s.device d).eject = .pulsing e x → e ≤ s.now →
    (∀ r ∈ (s.device d).queue.head?, r.purpose ≠ .search) →
    ∃ u : DeviceUnit, exec (.pulseEnd d) s = .next { s with dev := u } ∧
      u.devices[d] = { s.device d with eject := .confirming (some (s.now + (s.device d).record.confirm)) x } ∧
      ∀ c : DeviceId, c ≠ d → u.devices[c] = s.device c ∨
        (∃ w, (s.device c).eject = .waitCoil w) ∧
          u.devices[c] = { s.device c with eject := .pulsing (s.now + (s.device c).record.pulse) none }) ∧
  (∀ (s : State) (d : DeviceId) (e k : Nat) (x : Option Nat) (rest : List Request), s.AtRest →
    (s.device d).eject = .pulsing e x → e ≤ s.now → (s.device d).queue = ⟨.search, k⟩ :: rest →
    ∃ t, exec (.pulseEnd d) s = .next t ∧ t.game = s.game ∧ t.track.free = s.track.free ∧
      t.track.missing = s.track.missing ∧ (∀ c, (t.device c).held = (s.device c).held) ∧
      (s.track.search ≠ .idle → t = { s with dev := t.dev } ∧
        (t.device d).record = (s.device d).record ∧ (t.device d).settled = (s.device d).settled ∧
        (∀ c, c ≠ d → t.device c = s.device c ∨
          (∃ w, (s.device c).eject = .waitCoil w) ∧
            t.device c = { s.device c with eject := .pulsing (s.now + (s.device c).record.pulse) none }) ∧
        (2 ≤ k → (t.device d).queue = ⟨.search, k - 1⟩ :: rest ∧ (t.device d).attempts = (s.device d).attempts) ∧
        (k ≤ 1 → (t.device d).attempts = 0) ∧
        (k ≤ 1 → rest = [] → (t.device d).queue = [] ∧ (t.device d).eject = .idle) ∧
        (k ≤ 1 → (∃ r ∈ rest.head?, s.headReady d r = true) → (t.device d).queue = rest) ∧
        ((2 ≤ k ∨ ∃ r ∈ rest.head?, s.headReady d r = true) →
          if s.scan.power = .present then
            (t.device d).eject = .waitCoil s.now ∨
              (t.device d).eject = .pulsing (s.now + (s.device d).record.pulse) none
          else (t.device d).eject = .waitPower))) ∧
  ∀ (s : State) (c : Instr) (d : DeviceId) (e : Nat), s.AtRest →
    ((s.device d).eject = .recovering e ∧ c = .recoveryEnd d ∨ (s.device d).eject = .spacing e ∧ c = .spacingEnd d) →
    e ≤ s.now →
    ∃ u : DeviceUnit, exec c s = .next { s with dev := u } ∧
      (∀ b : DeviceId, b ≠ d → u.devices[b] = s.device b ∨
        (∃ w, (s.device b).eject = .waitCoil w) ∧
          u.devices[b] = { s.device b with eject := .pulsing (s.now + (s.device b).record.pulse) none }) ∧
      u.devices[d].held = (s.device d).held ∧ u.devices[d].record = (s.device d).record ∧
      u.devices[d].settled = (s.device d).settled ∧
      (s.ready d = true → u.devices[d].queue = (s.device d).queue ∧ u.devices[d].attempts = (s.device d).attempts ∧
        if s.scan.power = .present then
          u.devices[d].eject = .waitCoil s.now ∨
            u.devices[d].eject = .pulsing (s.now + (s.device d).record.pulse) none
        else u.devices[d].eject = .waitPower) ∧
      ((s.device d).queue = [] → u.devices[d] = { s.device d with eject := .idle })

/-- CONFIRM_WINDOW_END at a hold device (R30, R32, R33): without an observed exit the attempt fails, is reported, and the
device recovers, or is JAMMED with its notice at the fourth failure; with one the attempt succeeds: the oldest RELEASING
ball is counted free and one of the head's count is done. SETTLE_TIMER_EXPIRY while the attempt is observed (R30): the
first decrease is the observed exit; an increase within 500 ms of it is a fall-back, which fails the attempt; a later one
ends it as a success and is an entry, which at a hold time of 0 is RELEASING when the event has been taken (the model's
reading, log 34). A settled decrease at a JAMMED device (R34) is the success of its head request, behind UNJAMMED with cause
EXIT; a further unit of it is an unexpected exit. That the first unit is that success also where the settled count exceeds
the held-ball list, and is not set against the excess, is the model's reading (log 10). -/
def Obligations.ConfirmWindowsJudgeTheAttempt : Prop :=
  (∀ (s : State) (d : DeviceId) (e : Nat) (r : Request) (rest : List Request), s.AtRest → 2 ≤ d.val →
    (s.device d).eject = .confirming (some e) none → e ≤ s.now → (s.device d).queue = r :: rest → 1 ≤ r.count →
    ∃ t, exec (.confirmWindowEnd d) s = .next t ∧ (∀ c, (t.device c).held = (s.device c).held) ∧
      t.track.free = s.track.free ∧ t.track.missing = s.track.missing ∧ t.game.state = s.game.state ∧
      (t.device d).attempts = (s.device d).attempts + 1 ∧
      (if (s.device d).attempts + 1 < 4 then (t.device d).eject = .recovering (s.now + 200)
      else (t.device d).eject = .jammed ∧ t.link.notices.getLsbD Notice.deviceJammed.bit = true) ∧
      (s.link.reports.length < 64 → ∃ more, t.link.reports = s.link.reports ++
        ⟨s.clock, s.link.gap, .ejectFailed d r.purpose ((s.device d).attempts + 1) .noExit⟩ :: more)) ∧
  (∀ (s : State) (d : DeviceId) (e x k : Nat) (rest : List Request) (before after : List Held) (h : Held), s.AtRest →
    2 ≤ d.val → (s.device d).eject = .confirming (some e) (some x) → e ≤ s.now →
    (s.device d).queue = ⟨.release, k + 1⟩ :: rest → (s.device d).held = before ++ h :: after → h.tag = .releasing →
    (∀ y ∈ before, y.tag ≠ .releasing) →
    ∃ t, exec (.confirmWindowEnd d) s = .next t ∧ (t.device d).held = before ++ after ∧
      (∀ c, c ≠ d → (t.device c).held = (s.device c).held) ∧ t.track.free = s.track.free + 1 ∧
      t.track.missing = s.track.missing ∧ (t.device d).attempts = 0 ∧ t.game.state = s.game.state ∧
      (1 ≤ k → (t.device d).eject = .spacing (s.now + 500)) ∧
      (s.track.search = .idle → s.link.reports.length < 64 → ∃ more, t.link.reports = s.link.reports ++
        ⟨s.clock, s.link.gap, .ballOut d .releasing .release (before.length + after.length)⟩ :: more)) ∧
  (∀ (s : State) (d : DeviceId) (e w : Nat) (r : Request) (rest : List Request), s.AtRest → 2 ≤ d.val →
    (s.device d).settleAt = some e → e ≤ s.now → (s.device d).queue = r :: rest → r.purpose = .release →
    (s.device d).closed + 1 = (s.device d).settled →
    (s.device d).eject = .pulsing w none ∨ (s.device d).eject = .confirming (some w) none →
    ∃ t, exec (.settleTimerExpiry d) s = .next t ∧ (∀ c, (t.device c).held = (s.device c).held) ∧ t.track = s.track ∧
      t.game = s.game ∧ t.link = s.link ∧
      ((s.device d).eject = .pulsing w none → (t.device d).eject = .pulsing w (some s.now)) ∧
      ((s.device d).eject = .confirming (some w) none → (t.device d).eject = .confirming (some w) (some s.now))) ∧
  (∀ (s : State) (d : DeviceId) (e w x k : Nat) (rest : List Request) (before after : List Held) (h : Held), s.AtRest →
    s.running = true → 2 ≤ d.val → (s.device d).settleAt = some e → e ≤ s.now →
    (s.device d).queue = ⟨.release, k + 1⟩ :: rest → (s.device d).closed = (s.device d).settled + 1 →
    (s.device d).eject = .pulsing w (some x) ∨ (s.device d).eject = .confirming (some w) (some x) →
    (s.device d).held = before ++ h :: after → h.tag = .releasing → (∀ y ∈ before, y.tag ≠ .releasing) →
    s.track.search = .idle →
    ∃ t, exec (.settleTimerExpiry d) s = .next t ∧ t.track.free = s.track.free ∧ t.track.missing = s.track.missing ∧
      (∀ c, c ≠ d → (t.device c).held = (s.device c).held) ∧
      (s.now ≤ x + 500 →
        (t.device d).held = (s.device d).held ∧ (t.device d).attempts = (s.device d).attempts + 1 ∧
        s.Queues [.ejectFailed d .release ((s.device d).attempts + 1) .fallBack] t ∧
        if (s.device d).attempts + 1 < 4 then (t.device d).eject = .recovering (s.now + 200)
        else (t.device d).eject = .jammed ∧ t.link.notices.getLsbD Notice.deviceJammed.bit = true) ∧
      (x + 500 < s.now → (∀ p, s.decide d ≠ .lock p) →
        (∃ g, (t.device d).held = before ++ after ++ [g] ∧ g.tag =
          if s.game.state = .inPlay ∧ s.game.tilted = false ∧ (s.device d).record.hold ≠ 0 then .parked
          else .releasing) ∧
        s.Queues [.ballOut d .releasing .release (before.length + after.length)] t)) ∧
  ∀ (s : State) (d : DeviceId) (e k : Nat) (rest : List Request) (before after : List Held) (h : Held), s.AtRest →
    s.running = true → 2 ≤ d.val → (s.device d).settleAt = some e → e ≤ s.now → (s.device d).eject = .jammed →
    (s.device d).queue = ⟨.release, k + 1⟩ :: rest → (s.device d).held = before ++ h :: after → h.tag = .releasing →
    (∀ y ∈ before, y.tag ≠ .releasing) → (s.device d).closed < (s.device d).settled →
    ∃ t, exec (.settleTimerExpiry d) s = .next t ∧ t.track.missing = s.track.missing ∧ (t.device d).eject ≠ .jammed ∧
      (∀ c, c ≠ d → (t.device c).held = (s.device c).held) ∧
      (s.track.search = .idle →
        s.Queues [.unjammed d .exit, .ballOut d .releasing .release (before.length + after.length)] t) ∧
      ((s.device d).closed + 1 = (s.device d).settled → (t.device d).held = before ++ after ∧
        t.track.free = s.track.free + 1 ∧ (t.device d).attempts = 0 ∧ (1 ≤ k → (t.device d).eject = .spacing (s.now + 500))) ∧
      ((s.device d).closed + 2 = (s.device d).settled → 2 ≤ (s.device d).held.length →
        (s.device d).settled ≤ (s.device d).held.length →
        (t.device d).held.length + 2 = (s.device d).held.length ∧ t.track.free = s.track.free + 2)

/-- LAUNCH_CONFIRMED (R39, R69): the ball of the lane is counted free and the launch confirmation closes; in SERVING and READY
the game is IN_PLAY, and an ARMED save begins to count. AUTO_LAUNCH_DELAY_END (R42): with its ball in the lane and the game
IN_PLAY a LAUNCH is queued there; otherwise the delay just ends. SETTLE_TIMER_EXPIRY at the lane: a decrease opens a launch
confirmation, an increase while it is open is a fall-back, which fails an attempt of the lane's coil (R39), a further
increase is a return (R41) or is refused as a phantom, which at a lane that has its ball while one is free is the model's
reading (log 38); in SERVING the ball that stays or returns is the ball's own (R68). CONFIRM_WINDOW_END at the lane (R40):
without a decrease the attempt fails with NO_EXIT; while the launch confirmation is open it alone decides. -/
def Obligations.LaunchesPutTheBallInPlay : Prop :=
  (∀ (s : State) (e : Nat) (h : Held), s.AtRest → s.dev.launchAt = some e → e ≤ s.now → (s.device 1).held = [h] →
    ∃ t, exec .launchConfirmed s = .next t ∧ t.dev.launchAt = none ∧ (t.device 1).held = [] ∧
      t.track.free = s.track.free + 1 ∧ t.track.missing = s.track.missing ∧
      (∀ d, d ≠ 1 → (t.device d).held = (s.device d).held) ∧
      (if s.game.state = .serving ∨ s.game.state = .ready then
        t.game.state = .inPlay ∧ t.game.save = (if s.game.save = .armed then .counting else s.game.save)
      else t.game.state = s.game.state ∧ t.game.save = s.game.save) ∧ t.game.saveLeft = s.game.saveLeft) ∧
  (∀ (s : State) (e : Nat), s.AtRest → s.dev.autoAt = some e → e ≤ s.now → s.laneReady = true →
    s.game.state = .inPlay → (s.device 1).record.launchCoil = true → (s.device 1).eject = .idle →
    (s.device 1).queue = [] →
    ∃ u : DeviceUnit, exec .autoLaunchDelayEnd s = .next { s with dev := u } ∧ u.autoAt = none ∧
      u.devices[(1 : DeviceId)].queue = [⟨.launch, 1⟩] ∧ u.devices[(1 : DeviceId)].eject ≠ .idle ∧
      ∀ d : DeviceId, u.devices[d].held = (s.device d).held ∧ u.devices[d].record = (s.device d).record) ∧
  (∀ (s : State) (e : Nat), s.AtRest → s.dev.autoAt = some e → e ≤ s.now →
    (s.laneReady = false ∨ s.game.state ≠ .inPlay) →
    exec .autoLaunchDelayEnd s = .next (s.modDev fun u => { u with autoAt := none })) ∧
  (∀ (s : State) (e : Nat) (h : Held), s.AtRest → (s.device 1).settleAt = some e → e ≤ s.now →
    (s.device 1).eject ≠ .off → (s.device 1).held = [h] → s.dev.launchAt = none →
    (s.device 1).closed < (s.device 1).settled →
    ∃ u : DeviceUnit, exec (.settleTimerExpiry 1) s = .next { s with dev := u } ∧ u.launchAt = some (s.now + 750) ∧
      u.devices[(1 : DeviceId)].settled = (s.device 1).closed ∧
      ∀ d : DeviceId, u.devices[d].held = (s.device d).held ∧ u.devices[d].record = (s.device d).record) ∧
  (∀ (s : State) (e w : Nat) (h : Held), s.AtRest → s.running = true → (s.device 1).settleAt = some e → e ≤ s.now →
    (s.device 1).eject ≠ .off → (s.device 1).held = [h] → s.dev.launchAt = some w →
    (s.device 1).settled < (s.device 1).closed → (∀ r ∈ (s.device 1).queue.head?, 1 ≤ r.count) →
    ∃ t, exec (.settleTimerExpiry 1) s = .next t ∧ t.dev.launchAt = none ∧
      (∀ d, (t.device d).held = (s.device d).held) ∧ t.track.free = s.track.free ∧ t.track.missing = s.track.missing ∧
      t.game.state = (if s.game.state = .serving then .ready else s.game.state) ∧
      ((s.device 1).attempting = true → (t.device 1).attempts = (s.device 1).attempts + 1 ∧
        s.Queues [.ejectFailed 1 (s.device 1).headPurpose ((s.device 1).attempts + 1) .fallBack] t)) ∧
  (∀ (s : State) (e : Nat), s.AtRest → s.running = true → (s.device 1).settleAt = some e → e ≤ s.now →
    (s.device 1).eject ≠ .off → s.dev.launchAt = none → (s.device 0).attempting = false → s.track.search = .idle →
    (s.device 1).settled < (s.device 1).closed →
    ∃ t, exec (.settleTimerExpiry 1) s = .next t ∧ t.track.missing = s.track.missing ∧ t.track.lastActivity = s.now ∧
      (∀ d, d ≠ 1 → (t.device d).held = (s.device d).held) ∧
      if 1 ≤ s.track.free ∧ (s.device 1).held = [] then
        (t.device 1).held = [⟨.spare, s.clock, none⟩] ∧ t.track.free = s.track.free - 1 ∧
          t.game.state = (if s.game.state = .serving then .ready else s.game.state) ∧ s.Queues [.ballIn 1 .spare 1] t
      else
        (t.device 1).held = (s.device 1).held ∧ t.track.free = s.track.free ∧ (t.device 1).suspect = true ∧
          t.game = s.game ∧ t.link.notices.getLsbD Notice.phantomEntry.bit = true ∧
          s.Queues [.phantom 1 (s.device 1).closed (s.device 1).held.length] t) ∧
  (∀ (s : State) (e : Nat) (x : Option Nat) (r : Request) (rest : List Request), s.AtRest →
    (s.device 1).eject = .confirming (some e) x → e ≤ s.now → s.dev.launchAt = none → (s.device 1).queue = r :: rest →
    1 ≤ r.count →
    ∃ t, exec (.confirmWindowEnd 1) s = .next t ∧ (∀ d, (t.device d).held = (s.device d).held) ∧
      t.track.free = s.track.free ∧ t.track.missing = s.track.missing ∧ t.game = s.game ∧
      (t.device 1).attempts = (s.device 1).attempts + 1 ∧ s.Queues
        [.ejectFailed 1 r.purpose ((s.device 1).attempts + 1) .noExit] t ∧
      if (s.device 1).attempts + 1 < 4 then (t.device 1).eject = .recovering (s.now + 200)
      else (t.device 1).eject = .jammed ∧ t.link.notices.getLsbD Notice.deviceJammed.bit = true) ∧
  ∀ (s : State) (e w : Nat) (x : Option Nat), s.AtRest → (s.device 1).eject = .confirming (some e) x → e ≤ s.now →
    s.dev.launchAt = some w →
    exec (.confirmWindowEnd 1) s = .next (s.modDevice 1 fun v => { v with eject := .confirming none x })

/-- COIL_POWER_ABSENT and COIL_POWER_PRESENT (R35): without power no coil is energised and no device waits for a grant, and
COIL_POWER_LOST is set; when power returns every device in WAIT_POWER makes its readiness test, and no ball moves. -/
def Obligations.CoilPowerGatesThePulses : Prop :=
  (∀ s : State, s.AtRest → 10 ≤ s.scan.lowRun → s.scan.power ≠ .absent →
    ∃ t, exec .coilPowerAbsent s = .next t ∧ t.scan = { s.scan with power := .absent } ∧
      (∀ d, t.ejectOutput d = false) ∧ (∀ d w, (t.device d).eject ≠ .waitCoil w) ∧
      t.link.notices.getLsbD Notice.coilPowerLost.bit = true ∧ t.total = s.total) ∧
  ∀ s : State, s.AtRest → 10 ≤ s.scan.highRun → s.scan.power ≠ .present →
    ∃ u : DeviceUnit, exec .coilPowerPresent s =
        .next { s with scan := { s.scan with power := .present }, dev := u } ∧
      (∀ d : DeviceId, u.devices[d].held = (s.device d).held ∧ u.devices[d].record = (s.device d).record ∧
        u.devices[d].settled = (s.device d).settled ∧ u.devices[d].eject ≠ .waitPower) ∧
      ∀ d : DeviceId, (s.device d).eject = .waitPower → s.ready d = true →
        u.devices[d].queue = (s.device d).queue ∧ u.devices[d].eject ≠ .idle

/-! ## Ball search -/

/-- PLAYFIELD_QUIET and SEARCH_STEP (R57, R58, R60): search starts at round 1 and takes its first step at once; a step goes on
to the next searchable device above the last, else to the lowest in the next round, and queues one SEARCH there; after the
fifth round search gives up: every free ball is missing, with its notice, and the SEARCH requests are withdrawn. Search
ends too with an activity (a PLAYFIELD closure) and when the game leaves IN_PLAY (R59): with SEARCH_ENDED, whose place
before the activity's own reports and behind GAME_ENDED is the model's reading (log 18), and its requests withdrawn. -/
def Obligations.SearchGoesRoundAndGivesUp : Prop :=
  (∀ s : State, s.AtRest → s.running = true → s.track.search = .idle → s.game.state = .inPlay → 1 ≤ s.track.free →
    (∀ d, (s.device d).attempting = false) → s.track.lastActivity + 1000 * s.settings.searchDelay ≤ s.now →
    ∃ t, exec .playfieldQuiet s = .next t ∧
      t.track = { s.track with
        search := .searching (if (s.nextSearchable none).isSome then 1 else 2) (s.nextSearchable none) (s.now + 400) } ∧
      t.game = s.game ∧
      (∀ d, (t.device d).held = (s.device d).held) ∧
      (∀ d, s.nextSearchable none = some d → (s.device d).queue.length < 8 →
        (∀ r ∈ (s.device d).queue.getLast?, r.purpose ≠ .search) → (t.device d).queue.getLast? = some ⟨.search, 1⟩) ∧
      (s.link.reports.length < 64 → ∃ more, t.link.reports = s.link.reports ++
        ⟨s.clock, s.link.gap, .searchStarted s.track.free (holdDevices.countP s.searchable)⟩ :: more)) ∧
  (∀ (s : State) (r : Nat) (last : Option DeviceId) (e : Nat), s.AtRest → s.running = true →
    s.track.search = .searching r last e → e ≤ s.now →
    ∃ t, exec .searchStep s = .next t ∧ (∀ d, (t.device d).held = (s.device d).held) ∧
      t.track.lastActivity = s.track.lastActivity ∧
      (∀ d, (s.nextSearchable last = some d ∨ s.nextSearchable last = none ∧ r < 5 ∧ s.nextSearchable none = some d) →
        (s.device d).queue.length < 8 → (∀ q ∈ (s.device d).queue.getLast?, q.purpose ≠ .search) →
        (t.device d).queue.getLast? = some ⟨.search, 1⟩) ∧
      (∀ d, s.nextSearchable last = some d →
        t.track = { s.track with search := .searching r (some d) (s.now + 400) }) ∧
      (s.nextSearchable last = none → r < 5 →
        t.track = { s.track with search := .searching (r + 1) (s.nextSearchable none) (s.now + 400) }) ∧
      (s.nextSearchable last = none → 5 ≤ r →
        t.track.search = .idle ∧ t.track.free = 0 ∧ t.track.missing = s.track.missing + s.track.free ∧
          t.link.notices.getLsbD Notice.ballMissing.bit = true ∧ ∀ d ∈ holdDevices, s.Withdraws d .search t)) ∧
  (∀ (s : State) (n : SwitchId) (r : Nat) (last : Option DeviceId) (e : Nat), s.AtRest →
    s.track.search = .searching r last e → (s.switch n).qualified = true → (s.switch n).filtered = false →
    (s.source (switchSource n)).role = .playfield →
    ∃ t, exec (.acceptedChange n) s = .next t ∧ t.track = { s.track with search := .idle, lastActivity := s.now } ∧
      (∀ d ∈ holdDevices, s.Withdraws d .search t) ∧ s.Queues [.searchEnded .found r] t) ∧
  ∀ (s : State) (tag : Byte) (r : Nat) (last : Option DeviceId) (e : Nat), s.AtRest → s.running = true →
    s.game.state ≠ .noGame → s.track.search = .searching r last e → (∀ d, (s.device d).queue.length < 8) →
    s.Takes 0x23 tag [] →
    ∃ t, exec (.endGame tag []) s = .next t ∧ t.track = { s.track with search := .idle } ∧
      (∀ d ∈ holdDevices, s.Withdraws d .search t) ∧
      s.Queues [.gameEnded .aborted s.game.players s.scores, .searchEnded .stopped r] t

/-! ## Hits -/

/-- HIT_RESOLUTION (R12, R146 to R154, R157, R161, R164 to R166, R169): one repeat of the front entry is taken. Out of play
and tilted the HIT report alone follows. In play the walk passes over every page that is too short, or whose entry is EMPTY
or fails its condition, down to the first entry that applies: its points times the effective multiplier are credited, its
bonus is added, the variable of a VAR_TAKE falls by 1, its action acts, and the HIT report tells the item. A pass-through
entry lets the walk go on to the next, and a mode that the action completes hands its award to the chain. The argument of
the action is one that LOAD_AWARDS stores, as every entry of the table has it (QueuesStayBounded). -/
def Obligations.HitsAreResolved : Prop :=
  (∀ (s : State) (h : Hit) (rest : List Hit), s.AtRest → s.running = true → s.hit.queue = h :: rest →
    (s.playable = false ∨ s.game.tilted = true) →
    exec .hitResolution s = .next (queueReport
      (.hit ⟨h.source.val, h.stamp, s.playerNo, if s.playable then .tilted else .outOfPlay, false, [], [], 0,
        s.currentScore⟩)
      (s.modHit fun u =>
        { u with queue := if h.repeats ≤ 1 then rest else { h with repeats := h.repeats - 1 } :: rest }))) ∧
  (∀ (s : State) (h : Hit) (p : PlayerId) (page : Option ModeId) (a own inherited : Nat) (multiplied pass : Bool)
    (value bonus : Nat) (condition : Condition), s.InPlay h p → value ≤ 99999999 → bonus ≤ 9999 →
    s.Meets h page a own inherited (.award .fixed multiplied pass value bonus condition .none) →
    let product := own * inherited * (s.record p).fieldMult
    let mult := if multiplied then min 99 product else 1
    let score := min scoreMax ((s.record p).score + value * mult)
    ∃ t, exec .hitResolution s = .next t ∧ (t.record p).score = score ∧
      (t.record p).bonus = min bonusMax ((s.record p).bonus + bonus) ∧
      (t.record p).bonusMult = (s.record p).bonusMult ∧ (t.record p).fieldMult = (s.record p).fieldMult ∧
      (t.record p).extraBalls = (s.record p).extraBalls ∧ (t.record p).warnings = (s.record p).warnings ∧
      (∀ q, q ≠ p → t.record q = s.record q) ∧
      t.hit.queue = (if h.repeats ≤ 1 then s.hit.queue.tail
        else { h with repeats := h.repeats - 1 } :: s.hit.queue.tail) ∧
      t.hit.awards = s.hit.awards ∧
      (∀ q v, t.var q v = if q = p ∧ condition = .varTake v then s.var q v - 1 else s.var q v) ∧
      t.mode = s.mode ∧ t.dev = s.dev ∧ t.track = s.track ∧ t.lock = s.lock ∧ t.score = s.score ∧
      s.Queues [.hit ⟨h.source.val, h.stamp, p.val + 1, .play, false,
        [⟨page, a, value * mult, mult, multiplied && decide (99 < product)⟩], [], value * mult, score⟩] t) ∧
  (∀ (s : State) (h : Hit) (p : PlayerId) (page : Option ModeId) (a own inherited : Nat) (multiplied pass : Bool)
    (value bonus : Nat) (action : Action), s.InPlay h p → value ≤ 99999999 → bonus ≤ 9999 → action.Valid →
    s.Meets h page a own inherited (.award .fixed multiplied pass value bonus .none action) →
    (∀ m, action.target page = some m → (s.descriptor m).completion = none ∧ (s.descriptor m).lap = none) →
    let product := own * inherited * (s.record p).fieldMult
    let mult := if multiplied then min 99 product else 1
    let score := min scoreMax ((s.record p).score + value * mult)
    ∃ t, exec .hitResolution s = .next t ∧ (t.record p).score = score ∧
      (t.record p).bonus = min bonusMax ((s.record p).bonus + bonus) ∧ s.Acts p page action t ∧
      (∀ q, q ≠ p → t.record q = s.record q) ∧
      s.Queues [.hit ⟨h.source.val, h.stamp, p.val + 1, .play, false,
        [⟨page, a, value * mult, mult, multiplied && decide (99 < product)⟩], [], value * mult, score⟩] t) ∧
  (∀ (s : State) (h : Hit) (p : PlayerId) (above between below : List (Option ModeId)) (page next : Option ModeId)
    (a b own own' inherited inherited' : Nat) (pass : Bool) (value value' bonus bonus' : Nat), s.InPlay h p →
    s.snapshot = above ++ page :: between ++ next :: below → (pass = true → below = []) →
    (∀ q ∈ above, s.PassesOver (s.source h.source).offset q) →
    (∀ q ∈ between, s.PassesOver (s.source h.source).offset q) → value ≤ 99999999 → value' ≤ 99999999 →
    s.PageHolds (s.source h.source).offset page a own inherited (.award .fixed false true value bonus .none .none) →
    s.PageHolds (s.source h.source).offset next b own' inherited'
      (.award .fixed false pass value' bonus' .none .none) →
    let score := min scoreMax (min scoreMax ((s.record p).score + value) + value')
    ∃ t, exec .hitResolution s = .next t ∧ (t.record p).score = score ∧ t.mode = s.mode ∧
      s.Queues [.hit ⟨h.source.val, h.stamp, p.val + 1, .play, false,
        [⟨page, a, value, 1, false⟩, ⟨next, b, value', 1, false⟩], [], value + value', score⟩] t) ∧
  ∀ (s : State) (h : Hit) (p : PlayerId) (m : ModeId) (f : Frame) (a b own inherited : Nat) (pass pass' : Bool)
    (value value' bonus bonus' n : Nat), s.InPlay h p → value ≤ 99999999 → value' ≤ 99999999 →
    s.Meets h (some m) a own inherited (.award .fixed false pass value bonus .none (.advance none n)) →
    s.frame m = some f → (s.descriptor m).counter = .count → f.counter ≤ n → (s.descriptor m).completion = some b →
    awardAt s.hit.awards b = .award .fixed false pass' value' bonus' .none .none →
    let score := min scoreMax (min scoreMax ((s.record p).score + value) + value')
    ∃ t, exec .hitResolution s = .next t ∧ (t.record p).score = score ∧
      t.mode.stack = s.mode.stack.filter (·.mode ≠ m) ∧
      s.Queues [.hit ⟨h.source.val, h.stamp, p.val + 1, .play, false, [⟨some m, a, value, 1, false⟩],
        [⟨m, b, .completion, value', 1, false, false⟩], value + value', score⟩] t

/-! ## The serial link -/

/-- The receiver (R178 to R181): BYTE_RECEIVED collects a frame behind a sync byte and drops one whose length is above 240;
FRAME_RECEIVED hands a frame whose CRC-8 matches to the command buffer, or answers BUSY, or sets LINE_ERROR, and discards
one whose CRC-8 does not, scanning its bytes again from the next sync byte among them; BYTE_ERROR and FRAME_TIMEOUT discard
the frame in progress with LINE_ERROR. The model's choice is that the 20 ms are counted in ticks, also by a byte that comes
late (log 28), and that a frame received whole is handed on before a further byte or byte error (log 27). -/
def Obligations.ReceiverFramesTheBytes : Prop :=
  (∀ (s : State) (b : Byte), s.AtRest → s.link.receiver = .hunting →
    exec (.byteReceived b) s = .next
      (if b = 0xA9 then s.modLink fun l => { l with receiver := .inFrame [] s.now } else s)) ∧
  (∀ (s : State) (b : Byte) (t : Nat), s.AtRest → s.link.receiver = .inFrame [] t → s.now ≤ t + 20 →
    exec (.byteReceived b) s = .next
      (if 240 < b.toNat then (s.notice .lineError).modLink fun l => { l with receiver := .hunting }
      else s.modLink fun l => { l with receiver := .inFrame [b] s.now })) ∧
  (∀ (s : State) (b n : Byte) (l : List Byte) (t : Nat), s.AtRest → s.link.receiver = .inFrame (n :: l) t →
    n.toNat ≤ 240 → l.length < n.toNat + 3 → s.now ≤ t + 20 →
    exec (.byteReceived b) s =
      .next (s.modLink fun u => { u with receiver := .inFrame (n :: l ++ [b]) s.now })) ∧
  (∀ (s : State) (b : Byte) (l : List Byte) (t : Nat), s.AtRest → s.link.receiver = .inFrame l t → readFrame l = .more →
    t + 20 < s.now →
    exec (.byteReceived b) s = .next ((s.notice .lineError).modLink fun u =>
      { u with receiver := if b = 0xA9 then .inFrame [] s.now else .hunting })) ∧
  (∀ (s : State) (k tag : Byte) (p : List Byte) (t : Nat), s.AtRest → p.length ≤ 240 →
    s.link.receiver = .inFrame (byte p.length :: k :: tag :: p ++ [crc8 (byte p.length :: k :: tag :: p)]) t →
    let handed := (if s.link.commands.length < 4 then s.modLink fun l => { l with commands := l.commands ++ [⟨k, tag, p⟩] }
        else if s.link.replies.length < 4 then queueReply tag (.refused .busy) s
        else s.notice .lineError).modLink fun l => { l with receiver := .hunting }
    exec .frameReceived s = .next handed ∧ exec .byteError s = .next (handed.notice .lineError) ∧
      ∀ b, exec (.byteReceived b) s = exec (.byteReceived b) handed) ∧
  (∀ (s : State) (n k tag check : Byte) (p before after : List Byte) (t : Nat), s.AtRest → n.toNat = p.length →
    p.length ≤ 240 → s.link.receiver = .inFrame (n :: k :: tag :: p ++ [check]) t → check ≠ crc8 (n :: k :: tag :: p) →
    ((∀ b ∈ n :: k :: tag :: p ++ [check], b ≠ 0xA9) →
      exec .frameReceived s =
        .next ((s.notice .lineError).modLink fun l => { l with receiver := .hunting })) ∧
    (n :: k :: tag :: p ++ [check] = before ++ 0xA9 :: after → (∀ b ∈ before, b ≠ 0xA9) →
      (readFrame after = .more → exec .frameReceived s =
        .next ((s.notice .lineError).modLink fun l => { l with receiver := .inFrame after s.now })) ∧
      ∀ c, readFrame after = .whole c true [] → exec .frameReceived s =
        .next ((arrive c (s.notice .lineError)).modLink fun l => { l with receiver := .hunting }))) ∧
  (∀ s : State, s.AtRest → s.frameWaits = false →
    exec .byteError s = .next ((s.notice .lineError).modLink fun l => { l with receiver := .hunting })) ∧
  ∀ (s : State) (l : List Byte) (t : Nat), s.AtRest → s.link.receiver = .inFrame l t → readFrame l = .more →
    exec .frameTimeout s = .next
      (if t + 20 < s.now then (s.notice .lineError).modLink fun u => { u with receiver := .hunting } else s)

/-- FRAME_SENT (R198): the oldest reply goes out when its mark is 0; else the oldest report does and every mark falls by 1;
with nothing waiting nothing is sent. -/
def Obligations.TransmitterKeepsTheOrder : Prop :=
  ∀ s : State, s.AtRest →
    exec .frameSent s = .next
      (match s.link.replies, s.link.reports with
      | ⟨tag, a, 0⟩ :: rest, _ => s.modLink fun l => { l with replies := rest, txd := Reply.frame ⟨tag, a, 0⟩ }
      | _, [] => s
      | _, q :: rest => s.modLink fun l =>
        { l with
          reports := rest
          replies := l.replies.map fun r => { r with mark := r.mark - 1 }
          txd := q.frame })

/-- The arrival of a command's frame (R181): behind other commands it joins the buffer of four, or is refused with BUSY, or
is lost with LINE_ERROR where that refusal has no place; in an empty buffer it is the next to be taken (R182). That the row
of a command takes it in the step of its arrival, and that a row whose frame stands at the front stays put while the reply
queue has no free place, is the model's choice (log 4). -/
def Obligations.FramesArriveInTheBuffer : Prop :=
  ∀ (s : State) (i : Instr) (k tag : Byte) (p : List Byte), s.AtRest → WellFormed i → hostFrame i = some (k, tag, p) →
    (∀ c rest, s.link.commands = c :: rest → c ≠ ⟨k, tag, p⟩ →
      exec i s = .next
        (if s.link.commands.length < 4 then s.modLink fun l => { l with commands := l.commands ++ [⟨k, tag, p⟩] }
        else if s.link.replies.length < 4 then queueReply tag (.refused .busy) s
        else s.notice .lineError)) ∧
    (s.link.commands = [] →
      exec i s = exec i (s.modLink fun l => { l with commands := [⟨k, tag, p⟩] })) ∧
    (s.link.commands.head? = some ⟨k, tag, p⟩ → 4 ≤ s.link.replies.length → exec i s = .next s)

/-! ## Rules of the whole part -/

/-- Every command taken gives one reply with its tag, behind the replies that wait, marked with the reports that stand before
it; a command refused changes nothing else (R182, R185). RESTART has a statement of its own. -/
def Obligations.EveryTakenCommandIsAnswered : Prop :=
  ∀ (s : State) (i : Instr) (k tag : Byte) (p : List Byte), s.AtRest → WellFormed i → hostFrame i = some (k, tag, p) →
    s.Takes k tag p → k ≠ 0x19 →
    ∃ t a, exec i s = .next t ∧ t.link.commands = s.link.commands.tail ∧
      t.link.replies = s.link.replies ++ [⟨tag, a, t.link.reports.length⟩] ∧
      ((∃ c, a = .refused c) ∨ (∃ c x, a = .runCheck c x) → t = queueReply tag a s.taken)

/-- In RUNNING the setup tables stand: no command or event but COLD_RESET changes the settings, the source table, the filter
classes or a device record, a threshold while a game is in progress, or the descriptor of a mode in use (R3, R6, R18, R108,
R168, R187). -/
def Obligations.TablesStandInRunning : Prop :=
  ∀ (s t : State) (i : Instr), s.running = true → exec i s = .next t → i ≠ .coldReset →
    t.settings = s.settings ∧ t.scan.sources = s.scan.sources ∧ t.scan.classes = s.scan.classes ∧
      (∀ d, (t.device d).record = (s.device d).record) ∧
      (s.game.state ≠ .noGame → t.score.thresholds = s.score.thresholds) ∧
      ∀ m, s.modeInUse m = true → t.descriptor m = s.descriptor m

/-- No score falls but by COLD_RESET, START_GAME and RESTART, which clear the records (R65, R66, R166, R190). -/
def Obligations.ScoresNeverFall : Prop :=
  ∀ (s t : State) (i : Instr), s.playersBounded → exec i s = .next t → i ≠ .coldReset →
    (∀ tag p, i ≠ .startGame tag p) → (∀ tag p, i ≠ .restart tag p) →
    ∀ p, (s.record p).score ≤ (t.record p).score

/-! ## Invariants -/

/-- Every step leaves no report unfiled and no expiry marked where the mode timers do not run (R130, R196; the mark and the
list are the model's own, log 20 and log 31). -/
def Obligations.StepsEndAtRest : Prop :=
  ∀ s t : State, s.filed → s.marksHold → step s = .next t → t.filed ∧ t.marksHold

/-- Every step keeps the bounds of the queues (section 1.6, R25, R181, R185, R196, R197), of the mode stack and of the
carried lists (R110, R123), and the canonical form of the award table; and every entry of that table stays one that
LOAD_AWARDS stores (R143, R144, R152). -/
def Obligations.QueuesStayBounded : Prop :=
  (∀ s t : State, s.QueuesBounded → s.awardsCanonical → s.ModesBounded → step s = .next t →
    t.QueuesBounded ∧ t.awardsCanonical ∧ t.ModesBounded) ∧
  ∀ s t : State, s.awardsValid → step s = .next t → t.awardsValid

/-- No step energises a third eject coil (R28). -/
def Obligations.AtMostTwoCoils : Prop :=
  ∀ s t : State, s.coilsBounded → step s = .next t → t.coilsBounded

/-- Every step keeps the census: in RUNNING the balls of the devices, the free and the missing balls are the balls installed
(R46), and in SETUP there is no census. -/
def Obligations.CensusIsKept : Prop :=
  ∀ s t : State, s.censusHolds → step s = .next t → t.censusHolds

/-- Every step keeps the bounds of the player records (R65, R162, R166, R169, R170), of the tilt warnings (R65, R79) and of
the pools (R172, R177). -/
def Obligations.RecordsAndPoolsStayBounded : Prop :=
  (∀ s t : State, s.playersBounded → s.poolsBounded → step s = .next t → t.playersBounded ∧ t.poolsBounded) ∧
  ∀ s t : State, s.TiltsBounded → step s = .next t → t.TiltsBounded

/-- The state after a cold reset meets every invariant. -/
def Obligations.ResetMeetsTheInvariants : Prop :=
  State.reset.AtRest ∧ State.reset.QueuesBounded ∧ State.reset.awardsCanonical ∧ State.reset.ModesBounded ∧
    State.reset.coilsBounded ∧ State.reset.censusHolds ∧ State.reset.playersBounded ∧ State.reset.poolsBounded ∧
    State.reset.TiltsBounded ∧ State.reset.awardsValid

/-! ## Encodings -/

/-- A frame reads back (R179, section 10.9): behind the sync byte, every payload of up to 240 bytes, whatever follows. -/
def Obligations.FramesReadBack : Prop :=
  ∀ (k tag : Byte) (p rest : List Byte), p.length ≤ 240 →
    ∃ body, encodeFrame k tag p = 0xA9 :: body ∧ readFrame (body ++ rest) = .whole ⟨k, tag, p⟩ true rest

/-- The payloads of the setup commands read back (sections 10.4 and 10.9, R193, R194): every device record, mode descriptor
and run of award entries with every field at every value that the command can store. -/
def Obligations.SetupPayloadsReadBack : Prop :=
  (∀ (d : DeviceId) (r : DeviceRecord), r.Valid d → readDevice (devicePayload d r) = some (d, r)) ∧
  (∀ (m : ModeId) (d : Descriptor), d.Valid → readMode (modePayload m d) = some (m, d)) ∧
  ∀ (a : Nat) (es : List Award), 1 ≤ es.length → es.length ≤ 8 → a + es.length ≤ 1024 → (∀ e ∈ es, e.Valid) →
    readLoad (loadPayload a es) = some (a, es)

/-! ## Decimal arithmetic -/

/-- The adder gives the low decimal digits of the sum and overflows when the sum needs another digit (R163); the multiplier
gives the product of an 8-digit value and a multiplier up to 99 without overflow (R164). -/
def Obligations.DecimalArithmeticIsExact : Prop :=
  (∀ n a b : Nat, a < 10 ^ n → b < 10 ^ n → decAdd n a b = ((a + b) % 10 ^ n, decide (10 ^ n ≤ a + b))) ∧
  ∀ v m : Nat, v ≤ 99999999 → m ≤ 99 → decMul v m = v * m

/-- Scores, bonuses, pools and multipliers stop at their ends (R161, R166, R167, R169, R173): each sum is clamped to its
bound, and a threshold in force is reached exactly when the score after the credit has come to it. HIT_RESOLUTION of an
entry whose source is a pool (R165, R173, R174): POOL_COLLECT credits the pool's value times the multiplier and returns the
value to its base; POOL_ADD lets the value grow and credits nothing. A chain takes at most four links, an EMPTY link is
passed over, and awards left after the fourth set CHAIN_CUT (R154 to R156); the points 0 and the multiplier 0 of the item of
a link passed over are the model's reading (log 24). -/
def Obligations.ScoringStopsAtItsEnds : Prop :=
  (∀ score points : Nat, score ≤ scoreMax → points ≤ 9999999999 →
    creditScore score points = (min scoreMax (score + points), decide (scoreMax < score + points))) ∧
  (∀ bonus add : Nat, bonus ≤ bonusMax → add ≤ 9999 → addBonus bonus add = min bonusMax (bonus + add)) ∧
  (∀ (q : Pool) (v add : Nat), q.cap ≤ bonusMax → v ≤ q.cap → add ≤ bonusMax → q.grown v add = min q.cap (v + add)) ∧
  (∀ product : Nat, clampMult product = (min 99 product, decide (99 < product))) ∧
  (∀ (s : State) (p : PlayerId) (points : Nat) (k : Fin 3), (s.record p).score ≤ scoreMax → points ≤ 9999999999 →
    let t := creditTo p points s
    (t.record p).score = min scoreMax ((s.record p).score + points) ∧
      (t.record p).reached[k] = ((s.record p).reached[k] ||
        decide (s.score.thresholds[k] ≠ 0 ∧ s.score.thresholds[k] ≤ (t.record p).score))) ∧
  (∀ (s : State) (h : Hit) (p : PlayerId) (page : Option ModeId) (a own inherited : Nat) (j : Fin 8)
    (source : Points) (multiplied pass : Bool) (value bonus : Nat), s.InPlay h p → (s.pool j).Bounded →
    value ≤ 99999999 → source = .poolCollect j ∨ source = .poolAdd j →
    s.Meets h page a own inherited (.award source multiplied pass value bonus .none .none) →
    let v := (s.pool j).current s.game.current
    let product := own * inherited * (s.record p).fieldMult
    let mult := if source = .poolCollect j ∧ multiplied = true then min 99 product else 1
    let points := if source = .poolCollect j then v * mult else 0
    ∃ t, exec .hitResolution s = .next t ∧ (t.record p).score = min scoreMax ((s.record p).score + points) ∧
      (t.pool j).current t.game.current =
        (if source = .poolCollect j then (s.pool j).base else min (s.pool j).cap (v + value)) ∧
      (t.pool j).base = (s.pool j).base ∧ (t.pool j).cap = (s.pool j).cap ∧ (∀ i, i ≠ j → t.pool i = s.pool i) ∧
      s.Queues [.hit ⟨h.source.val, h.stamp, p.val + 1, .play, false,
        [⟨page, a, points, mult, decide (source = .poolCollect j) && multiplied && decide (99 < product)⟩], [], points,
        (t.record p).score⟩] t) ∧
  (∀ (n : Nat) (c : Chain), (chain n c).items.length ≤ c.items.length + n ∧
    ((chain n c).pending ≠ [] → (chain n c).items.length = c.items.length + n)) ∧
  ∀ (s : State) (handed : List Handed), handed ≠ [] → s.out = [] → (∀ h ∈ handed, awardAt s.hit.awards h.address = .empty) →
    outsideChain handed s = s.report (.hit ⟨255, s.clock, s.playerNo, .play, decide (4 < handed.length), [],
      (handed.take 4).map fun h => ⟨h.mode, h.address, h.cause, 0, 0, false, true⟩, 0, s.currentScore⟩)

/-- The placing of an offered closure (R13): it joins the newest entry when that has its source and a repeat count below 255,
is appended when the newest entry has another source and fewer than 24 wait, and else is dropped with SWITCH_OVERRUN. -/
def Obligations.OfferedClosuresArePlaced : Prop :=
  ∀ (s : State) (x : SourceId),
    (s.hit.queue = [] → offerClosure x s = s.modHit fun u => { u with queue := [⟨x, s.clock, 1⟩] }) ∧
    ∀ (older : List Hit) (h : Hit), s.hit.queue = older ++ [h] →
      offerClosure x s =
        if h.source = x then
          if h.repeats < 255 then s.modHit fun u => { u with queue := older ++ [{ h with repeats := h.repeats + 1 }] }
          else s.notice .switchOverrun
        else if s.hit.queue.length < 24 then s.modHit fun u => { u with queue := older ++ [h, ⟨x, s.clock, 1⟩] }
        else s.notice .switchOverrun
end

