-- ==== Sys2Proof/Laws/Awards.lean ====
section
/-! SUPPORT. The award table, the part's addressed memory: a read after a write, and the canonical form that every write
keeps (R143, R144). -/

namespace Sys2Proof.Machine

/-- A canonical table is an entry below a canonical table. -/
theorem awardsWf_cons {a : Nat} {e : Award} {t : List (Nat × Award)} :
    awardsWf ((a, e) :: t) = true ↔ e ≠ awardDefault ∧ (∀ x ∈ t, a < x.1) ∧ awardsWf t = true := by
  induction t generalizing a e with
  | nil => simp [awardsWf]
  | cons x t ih =>
    obtain ⟨b, y⟩ := x
    simp only [awardsWf, Bool.and_eq_true, bne_iff_ne, ne_eq, decide_eq_true_eq, List.mem_cons, forall_eq_or_imp, and_assoc]
    constructor
    · rintro ⟨h1, h2, h3⟩
      exact ⟨h1, h2, fun x hx => Nat.lt_trans h2 ((ih.mp h3).2.1 x hx), h3⟩
    · rintro ⟨h1, h2, -, h3⟩
      exact ⟨h1, h2, h3⟩

/-- What lies below every listed address reads as an unlisted address. -/
theorem awardAt_below {a : Nat} {t : List (Nat × Award)} (h : ∀ x ∈ t, a < x.1) : awardAt t a = awardDefault := by
  induction t with
  | nil => rfl
  | cons x t ih =>
    obtain ⟨b, y⟩ := x
    rw [awardAt, if_neg (Nat.ne_of_lt (h (b, y) (by simp)))]
    exact ih fun x hx => h x (by simp [hx])

/-- A write lists no entry but its own and those that stood. -/
theorem mem_awardSet {t : List (Nat × Award)} {a : Nat} {e : Award} {x : Nat × Award} (h : x ∈ awardSet t a e) :
    x = (a, e) ∨ x ∈ t := by
  induction t with
  | nil => simp only [awardSet] at h; split at h <;> simp_all
  | cons y t ih =>
    obtain ⟨b, y⟩ := y
    simp only [awardSet] at h
    split_ifs at h <;> simp only [List.mem_cons] at h ⊢ <;> first
      | exact .inr h
      | (rcases h with rfl | h
         · exact .inl rfl
         · exact .inr h)
      | exact .inr (.inr h)
      | (rcases h with rfl | h
         · exact .inl rfl
         · exact .inr (.inr h))
      | (rcases h with rfl | h
         · exact .inr (.inl rfl)
         · exact (ih h).imp id .inr)

/-- A write keeps the canonical form. -/
theorem awardsWf_set {t : List (Nat × Award)} (a : Nat) (e : Award) (h : awardsWf t = true) :
    awardsWf (awardSet t a e) = true := by
  induction t with
  | nil => simp only [awardSet]; split <;> simp_all [awardsWf]
  | cons y t ih =>
    obtain ⟨b, y⟩ := y
    obtain ⟨h1, h2, h3⟩ := awardsWf_cons.mp h
    simp only [awardSet]
    split_ifs with hab he he he
    · exact h
    · refine awardsWf_cons.mpr ⟨he, ?_, h⟩
      intro x hx
      rcases List.mem_cons.mp hx with rfl | hx
      · exact hab
      · exact Nat.lt_trans hab (h2 x hx)
    · exact h3
    · exact awardsWf_cons.mpr ⟨he, by subst_vars; exact h2, h3⟩
    · refine awardsWf_cons.mpr ⟨h1, fun x hx => ?_, ih h3⟩
      rcases mem_awardSet hx with rfl | hx
      · show b < a; omega
      · exact h2 x hx

/-- A read after a write: the entry written at its address, the entry before at every other. -/
theorem awardAt_set {t : List (Nat × Award)} (a b : Nat) (e : Award) (h : awardsWf t = true) :
    awardAt (awardSet t a e) b = if b = a then e else awardAt t b := by
  induction t with
  | nil => simp only [awardSet]; split_ifs <;> simp_all [awardAt]
  | cons y t ih =>
    obtain ⟨c, y⟩ := y
    obtain ⟨h1, h2, h3⟩ := awardsWf_cons.mp h
    simp only [awardSet]
    split_ifs with hac he hb hb heq he hb hb hb
    · subst hb; rw [he]
      exact awardAt_below fun x hx => by
        rcases List.mem_cons.mp hx with rfl | hx
        · exact hac
        · exact Nat.lt_trans hac (h2 x hx)
    · rfl
    · rw [awardAt, if_pos hb]
    · rw [awardAt, if_neg hb]
    · subst hb; subst heq; rw [he]; exact awardAt_below h2
    · rw [awardAt, if_neg (by omega)]
    · rw [awardAt, if_pos hb]
    · rw [awardAt, if_neg hb, awardAt, if_neg (by omega)]
    · subst hb; rw [awardAt, if_neg heq, ih h3, if_pos rfl]
    · by_cases hbc : b = c
      · simp [awardAt, hbc]
      · rw [awardAt, if_neg hbc, ih h3, if_neg hb, awardAt, if_neg hbc]

/-- Consecutive writes keep the canonical form. -/
theorem awardsWf_write {t : List (Nat × Award)} (a : Nat) (es : List Award) (h : awardsWf t = true) :
    awardsWf (awardWrite t a es) = true := by
  induction es generalizing t a with
  | nil => exact h
  | cons e es ih => exact ih _ (awardsWf_set a e h)

/-- An entry of the table after consecutive writes is one of those written, or was there before. -/
theorem mem_awardWrite {t : List (Nat × Award)} {a : Nat} {es : List Award} {x : Nat × Award}
    (h : x ∈ awardWrite t a es) : x.2 ∈ es ∨ x ∈ t := by
  induction es generalizing t a with
  | nil => exact .inr h
  | cons e es ih =>
    rcases ih h with h | h
    · exact .inl (List.mem_cons_of_mem _ h)
    · rcases mem_awardSet h with rfl | h
      · exact .inl (List.mem_cons_self ..)
      · exact .inr h

/-- The table after a cold reset is canonical. -/
theorem awardsWf_reset : State.reset.awardsCanonical := rfl

end Sys2Proof.Machine
end

