-- ==== Sys2Proof/Laws/Bytes.lean ====
section
/-! SUPPORT. Bytes and the fields read from them: what a reader finds where an encoder has written. -/

namespace Sys2Proof.Machine

@[simp] theorem byte_toNat {n : Nat} (h : n < 256) : (byte n).toNat = n := by simp [byte]; omega

theorem byte_toNat_mod (n : Nat) : (byte n).toNat = n % 256 := by simp [byte]

theorem flag_flagByte (b : Bool) : flag (flagByte b).toNat = some b := by cases b <;> rfl
theorem roleOf_code (r : Role) : roleOf r.code.toNat = some r := by cases r <;> rfl
theorem kindOf_code (k : DeviceKind) : kindOf k.code.toNat = some k := by cases k <;> rfl
theorem policyOf_code (p : Policy) : policyOf p.code = some p := by cases p <;> rfl
theorem counterOf_code (c : Counter) : counterOf c.code = some c := by cases c <;> rfl
theorem index_val {n : Nat} (i : Fin n) : index n i.val = some i := by simp [index]
theorem within_eq {a b v : Nat} (h : a ≤ v) (h' : v ≤ b) : within a b v = some v := by simp [within, h, h']

@[simp] theorem byteAt_zero (a : Byte) (l : List Byte) : byteAt (a :: l) 0 = a.toNat := rfl
@[simp] theorem byteAt_succ (a : Byte) (l : List Byte) (i : Nat) : byteAt (a :: l) (i + 1) = byteAt l i := by
  simp [byteAt]

theorem byteAt_append_right (a l : List Byte) (i : Nat) : byteAt (a ++ l) (a.length + i) = byteAt l i := by
  simp only [byteAt, List.getD_eq_getElem?_getD]
  rw [List.getElem?_append_right (by omega)]; simp

theorem byteAt_append_left {a l : List Byte} {i : Nat} (h : i < a.length) : byteAt (a ++ l) i = byteAt a i := by
  simp only [byteAt, List.getD_eq_getElem?_getD]
  rw [List.getElem?_append_left h]

theorem le16_word {n : Nat} (h : n < 65536) : n % 256 + 256 * (n / 256 % 256) = n := by omega

/-! ## Packed BCD -/

@[simp] theorem bcd_length (n v : Nat) : (bcd n v).length = n := by
  induction n generalizing v with
  | zero => rfl
  | succ n ih => simp [bcd, ih]

theorem bcdByte_pair (v : Nat) : bcdByte (byte (v / 10 % 10 * 16 + v % 10)).toNat = some (v % 100) := by
  rw [byte_toNat (by omega), bcdByte, if_pos (by omega)]
  simp only [Option.some.injEq]; omega

theorem bcdAt_append_left (a l : List Byte) (n : Nat) (h : n ≤ a.length) : bcdAt (a ++ l) 0 n = bcdAt a 0 n := by
  induction n with
  | zero => rfl
  | succ n ih => simp only [bcdAt, ih (by omega), Nat.zero_add, byteAt_append_left (show n < a.length by omega)]

/-- A value of `n` bytes of packed BCD is read back. -/
theorem bcdAt_bcd (n v : Nat) (h : v < 100 ^ n) : bcdAt (bcd n v) 0 n = some v := by
  induction n generalizing v with
  | zero => simp at h; simp [bcdAt, h]
  | succ n ih =>
    have hv : v / 100 < 100 ^ n := by rw [Nat.div_lt_iff_lt_mul (by norm_num)]; rw [pow_succ] at h; exact h
    have hb : byteAt (bcd (n + 1) v) n = (byte (v / 10 % 10 * 16 + v % 10)).toNat := by
      have := byteAt_append_right (bcd n (v / 100)) [byte (v / 10 % 10 * 16 + v % 10)] 0
      simpa [bcd] using this
    simp only [bcdAt, Nat.zero_add]
    rw [hb, bcdByte_pair, bcd, bcdAt_append_left _ _ _ (by simp), ih _ hv]
    simp only [Option.some.injEq]; omega

/-- The same at a place of a payload. -/
theorem bcdAt_shift (a l : List Byte) (n : Nat) : bcdAt (a ++ l) a.length n = bcdAt l 0 n := by
  induction n with
  | zero => rfl
  | succ n ih => simp only [bcdAt, ih, byteAt_append_right, Nat.zero_add]

theorem bcdAt_field (a l : List Byte) {i n v : Nat} (hi : a.length = i) (h : v < 100 ^ n) :
    bcdAt (a ++ (bcd n v ++ l)) i n = some v := by
  subst hi
  rw [bcdAt_shift, bcdAt_append_left _ _ _ (by simp), bcdAt_bcd n v h]

end Sys2Proof.Machine
end

