-- ==== Sys2Proof/Laws/State.lean ====
section
/-! SUPPORT. One lemma per field for each way the state is updated: what the update sets and what it leaves. Later proofs
cite these and unfold no record update. -/

namespace Sys2Proof.Machine

variable (s : State)

section
variable (f : Scanner → Scanner)
@[simp] theorem State.modScan_pending : (s.modScan f).pending = s.pending := rfl
@[simp] theorem State.modScan_resetHeld : (s.modScan f).resetHeld = s.resetHeld := rfl
@[simp] theorem State.modScan_now : (s.modScan f).now = s.now := rfl
@[simp] theorem State.modScan_settings : (s.modScan f).settings = s.settings := rfl
@[simp] theorem State.modScan_scan : (s.modScan f).scan = f s.scan := rfl
@[simp] theorem State.modScan_dev : (s.modScan f).dev = s.dev := rfl
@[simp] theorem State.modScan_track : (s.modScan f).track = s.track := rfl
@[simp] theorem State.modScan_game : (s.modScan f).game = s.game := rfl
@[simp] theorem State.modScan_lock : (s.modScan f).lock = s.lock := rfl
@[simp] theorem State.modScan_mode : (s.modScan f).mode = s.mode := rfl
@[simp] theorem State.modScan_hit : (s.modScan f).hit = s.hit := rfl
@[simp] theorem State.modScan_score : (s.modScan f).score = s.score := rfl
@[simp] theorem State.modScan_link : (s.modScan f).link = s.link := rfl
@[simp] theorem State.modScan_out : (s.modScan f).out = s.out := rfl
end

section
variable (f : DeviceUnit → DeviceUnit)
@[simp] theorem State.modDev_pending : (s.modDev f).pending = s.pending := rfl
@[simp] theorem State.modDev_resetHeld : (s.modDev f).resetHeld = s.resetHeld := rfl
@[simp] theorem State.modDev_now : (s.modDev f).now = s.now := rfl
@[simp] theorem State.modDev_settings : (s.modDev f).settings = s.settings := rfl
@[simp] theorem State.modDev_scan : (s.modDev f).scan = s.scan := rfl
@[simp] theorem State.modDev_dev : (s.modDev f).dev = f s.dev := rfl
@[simp] theorem State.modDev_track : (s.modDev f).track = s.track := rfl
@[simp] theorem State.modDev_game : (s.modDev f).game = s.game := rfl
@[simp] theorem State.modDev_lock : (s.modDev f).lock = s.lock := rfl
@[simp] theorem State.modDev_mode : (s.modDev f).mode = s.mode := rfl
@[simp] theorem State.modDev_hit : (s.modDev f).hit = s.hit := rfl
@[simp] theorem State.modDev_score : (s.modDev f).score = s.score := rfl
@[simp] theorem State.modDev_link : (s.modDev f).link = s.link := rfl
@[simp] theorem State.modDev_out : (s.modDev f).out = s.out := rfl
end

section
variable (f : Tracker → Tracker)
@[simp] theorem State.modTrack_pending : (s.modTrack f).pending = s.pending := rfl
@[simp] theorem State.modTrack_resetHeld : (s.modTrack f).resetHeld = s.resetHeld := rfl
@[simp] theorem State.modTrack_now : (s.modTrack f).now = s.now := rfl
@[simp] theorem State.modTrack_settings : (s.modTrack f).settings = s.settings := rfl
@[simp] theorem State.modTrack_scan : (s.modTrack f).scan = s.scan := rfl
@[simp] theorem State.modTrack_dev : (s.modTrack f).dev = s.dev := rfl
@[simp] theorem State.modTrack_track : (s.modTrack f).track = f s.track := rfl
@[simp] theorem State.modTrack_game : (s.modTrack f).game = s.game := rfl
@[simp] theorem State.modTrack_lock : (s.modTrack f).lock = s.lock := rfl
@[simp] theorem State.modTrack_mode : (s.modTrack f).mode = s.mode := rfl
@[simp] theorem State.modTrack_hit : (s.modTrack f).hit = s.hit := rfl
@[simp] theorem State.modTrack_score : (s.modTrack f).score = s.score := rfl
@[simp] theorem State.modTrack_link : (s.modTrack f).link = s.link := rfl
@[simp] theorem State.modTrack_out : (s.modTrack f).out = s.out := rfl
end

section
variable (f : Game → Game)
@[simp] theorem State.modGame_pending : (s.modGame f).pending = s.pending := rfl
@[simp] theorem State.modGame_resetHeld : (s.modGame f).resetHeld = s.resetHeld := rfl
@[simp] theorem State.modGame_now : (s.modGame f).now = s.now := rfl
@[simp] theorem State.modGame_settings : (s.modGame f).settings = s.settings := rfl
@[simp] theorem State.modGame_scan : (s.modGame f).scan = s.scan := rfl
@[simp] theorem State.modGame_dev : (s.modGame f).dev = s.dev := rfl
@[simp] theorem State.modGame_track : (s.modGame f).track = s.track := rfl
@[simp] theorem State.modGame_game : (s.modGame f).game = f s.game := rfl
@[simp] theorem State.modGame_lock : (s.modGame f).lock = s.lock := rfl
@[simp] theorem State.modGame_mode : (s.modGame f).mode = s.mode := rfl
@[simp] theorem State.modGame_hit : (s.modGame f).hit = s.hit := rfl
@[simp] theorem State.modGame_score : (s.modGame f).score = s.score := rfl
@[simp] theorem State.modGame_link : (s.modGame f).link = s.link := rfl
@[simp] theorem State.modGame_out : (s.modGame f).out = s.out := rfl
end

section
variable (f : LockUnit → LockUnit)
@[simp] theorem State.modLock_pending : (s.modLock f).pending = s.pending := rfl
@[simp] theorem State.modLock_resetHeld : (s.modLock f).resetHeld = s.resetHeld := rfl
@[simp] theorem State.modLock_now : (s.modLock f).now = s.now := rfl
@[simp] theorem State.modLock_settings : (s.modLock f).settings = s.settings := rfl
@[simp] theorem State.modLock_scan : (s.modLock f).scan = s.scan := rfl
@[simp] theorem State.modLock_dev : (s.modLock f).dev = s.dev := rfl
@[simp] theorem State.modLock_track : (s.modLock f).track = s.track := rfl
@[simp] theorem State.modLock_game : (s.modLock f).game = s.game := rfl
@[simp] theorem State.modLock_lock : (s.modLock f).lock = f s.lock := rfl
@[simp] theorem State.modLock_mode : (s.modLock f).mode = s.mode := rfl
@[simp] theorem State.modLock_hit : (s.modLock f).hit = s.hit := rfl
@[simp] theorem State.modLock_score : (s.modLock f).score = s.score := rfl
@[simp] theorem State.modLock_link : (s.modLock f).link = s.link := rfl
@[simp] theorem State.modLock_out : (s.modLock f).out = s.out := rfl
end

section
variable (f : ModeUnit → ModeUnit)
@[simp] theorem State.modMode_pending : (s.modMode f).pending = s.pending := rfl
@[simp] theorem State.modMode_resetHeld : (s.modMode f).resetHeld = s.resetHeld := rfl
@[simp] theorem State.modMode_now : (s.modMode f).now = s.now := rfl
@[simp] theorem State.modMode_settings : (s.modMode f).settings = s.settings := rfl
@[simp] theorem State.modMode_scan : (s.modMode f).scan = s.scan := rfl
@[simp] theorem State.modMode_dev : (s.modMode f).dev = s.dev := rfl
@[simp] theorem State.modMode_track : (s.modMode f).track = s.track := rfl
@[simp] theorem State.modMode_game : (s.modMode f).game = s.game := rfl
@[simp] theorem State.modMode_lock : (s.modMode f).lock = s.lock := rfl
@[simp] theorem State.modMode_mode : (s.modMode f).mode = f s.mode := rfl
@[simp] theorem State.modMode_hit : (s.modMode f).hit = s.hit := rfl
@[simp] theorem State.modMode_score : (s.modMode f).score = s.score := rfl
@[simp] theorem State.modMode_link : (s.modMode f).link = s.link := rfl
@[simp] theorem State.modMode_out : (s.modMode f).out = s.out := rfl
end

section
variable (f : HitUnit → HitUnit)
@[simp] theorem State.modHit_pending : (s.modHit f).pending = s.pending := rfl
@[simp] theorem State.modHit_resetHeld : (s.modHit f).resetHeld = s.resetHeld := rfl
@[simp] theorem State.modHit_now : (s.modHit f).now = s.now := rfl
@[simp] theorem State.modHit_settings : (s.modHit f).settings = s.settings := rfl
@[simp] theorem State.modHit_scan : (s.modHit f).scan = s.scan := rfl
@[simp] theorem State.modHit_dev : (s.modHit f).dev = s.dev := rfl
@[simp] theorem State.modHit_track : (s.modHit f).track = s.track := rfl
@[simp] theorem State.modHit_game : (s.modHit f).game = s.game := rfl
@[simp] theorem State.modHit_lock : (s.modHit f).lock = s.lock := rfl
@[simp] theorem State.modHit_mode : (s.modHit f).mode = s.mode := rfl
@[simp] theorem State.modHit_hit : (s.modHit f).hit = f s.hit := rfl
@[simp] theorem State.modHit_score : (s.modHit f).score = s.score := rfl
@[simp] theorem State.modHit_link : (s.modHit f).link = s.link := rfl
@[simp] theorem State.modHit_out : (s.modHit f).out = s.out := rfl
end

section
variable (f : ScoreUnit → ScoreUnit)
@[simp] theorem State.modScore_pending : (s.modScore f).pending = s.pending := rfl
@[simp] theorem State.modScore_resetHeld : (s.modScore f).resetHeld = s.resetHeld := rfl
@[simp] theorem State.modScore_now : (s.modScore f).now = s.now := rfl
@[simp] theorem State.modScore_settings : (s.modScore f).settings = s.settings := rfl
@[simp] theorem State.modScore_scan : (s.modScore f).scan = s.scan := rfl
@[simp] theorem State.modScore_dev : (s.modScore f).dev = s.dev := rfl
@[simp] theorem State.modScore_track : (s.modScore f).track = s.track := rfl
@[simp] theorem State.modScore_game : (s.modScore f).game = s.game := rfl
@[simp] theorem State.modScore_lock : (s.modScore f).lock = s.lock := rfl
@[simp] theorem State.modScore_mode : (s.modScore f).mode = s.mode := rfl
@[simp] theorem State.modScore_hit : (s.modScore f).hit = s.hit := rfl
@[simp] theorem State.modScore_score : (s.modScore f).score = f s.score := rfl
@[simp] theorem State.modScore_link : (s.modScore f).link = s.link := rfl
@[simp] theorem State.modScore_out : (s.modScore f).out = s.out := rfl
end

section
variable (f : LinkUnit → LinkUnit)
@[simp] theorem State.modLink_pending : (s.modLink f).pending = s.pending := rfl
@[simp] theorem State.modLink_resetHeld : (s.modLink f).resetHeld = s.resetHeld := rfl
@[simp] theorem State.modLink_now : (s.modLink f).now = s.now := rfl
@[simp] theorem State.modLink_settings : (s.modLink f).settings = s.settings := rfl
@[simp] theorem State.modLink_scan : (s.modLink f).scan = s.scan := rfl
@[simp] theorem State.modLink_dev : (s.modLink f).dev = s.dev := rfl
@[simp] theorem State.modLink_track : (s.modLink f).track = s.track := rfl
@[simp] theorem State.modLink_game : (s.modLink f).game = s.game := rfl
@[simp] theorem State.modLink_lock : (s.modLink f).lock = s.lock := rfl
@[simp] theorem State.modLink_mode : (s.modLink f).mode = s.mode := rfl
@[simp] theorem State.modLink_hit : (s.modLink f).hit = s.hit := rfl
@[simp] theorem State.modLink_score : (s.modLink f).score = s.score := rfl
@[simp] theorem State.modLink_link : (s.modLink f).link = f s.link := rfl
@[simp] theorem State.modLink_out : (s.modLink f).out = s.out := rfl
end

section
variable (r : Report)
@[simp] theorem State.report_pending : (s.report r).pending = s.pending := rfl
@[simp] theorem State.report_resetHeld : (s.report r).resetHeld = s.resetHeld := rfl
@[simp] theorem State.report_now : (s.report r).now = s.now := rfl
@[simp] theorem State.report_settings : (s.report r).settings = s.settings := rfl
@[simp] theorem State.report_scan : (s.report r).scan = s.scan := rfl
@[simp] theorem State.report_dev : (s.report r).dev = s.dev := rfl
@[simp] theorem State.report_track : (s.report r).track = s.track := rfl
@[simp] theorem State.report_game : (s.report r).game = s.game := rfl
@[simp] theorem State.report_lock : (s.report r).lock = s.lock := rfl
@[simp] theorem State.report_mode : (s.report r).mode = s.mode := rfl
@[simp] theorem State.report_hit : (s.report r).hit = s.hit := rfl
@[simp] theorem State.report_score : (s.report r).score = s.score := rfl
@[simp] theorem State.report_link : (s.report r).link = s.link := rfl
@[simp] theorem State.report_out : (s.report r).out = s.out ++ [r] := rfl
end

section
variable (n : Notice)
@[simp] theorem State.notice_pending : (s.notice n).pending = s.pending := rfl
@[simp] theorem State.notice_resetHeld : (s.notice n).resetHeld = s.resetHeld := rfl
@[simp] theorem State.notice_now : (s.notice n).now = s.now := rfl
@[simp] theorem State.notice_settings : (s.notice n).settings = s.settings := rfl
@[simp] theorem State.notice_scan : (s.notice n).scan = s.scan := rfl
@[simp] theorem State.notice_dev : (s.notice n).dev = s.dev := rfl
@[simp] theorem State.notice_track : (s.notice n).track = s.track := rfl
@[simp] theorem State.notice_game : (s.notice n).game = s.game := rfl
@[simp] theorem State.notice_lock : (s.notice n).lock = s.lock := rfl
@[simp] theorem State.notice_mode : (s.notice n).mode = s.mode := rfl
@[simp] theorem State.notice_hit : (s.notice n).hit = s.hit := rfl
@[simp] theorem State.notice_score : (s.notice n).score = s.score := rfl
@[simp] theorem State.notice_out : (s.notice n).out = s.out := rfl
@[simp] theorem State.notice_link_state : (s.notice n).link.state = s.link.state := rfl
@[simp] theorem State.notice_link_receiver : (s.notice n).link.receiver = s.link.receiver := rfl
@[simp] theorem State.notice_link_commands : (s.notice n).link.commands = s.link.commands := rfl
@[simp] theorem State.notice_link_replies : (s.notice n).link.replies = s.link.replies := rfl
@[simp] theorem State.notice_link_reports : (s.notice n).link.reports = s.link.reports := rfl
@[simp] theorem State.notice_link_gap : (s.notice n).link.gap = s.link.gap := rfl
@[simp] theorem State.notice_link_mask : (s.notice n).link.mask = s.link.mask := rfl
@[simp] theorem State.notice_link_txd : (s.notice n).link.txd = s.link.txd := rfl
@[simp] theorem State.notice_link_notices : (s.notice n).link.notices = s.link.notices ||| n.mask := rfl
end

section
variable (d : DeviceId) (f : Device → Device)
@[simp] theorem State.modDevice_pending : (s.modDevice d f).pending = s.pending := rfl
@[simp] theorem State.modDevice_resetHeld : (s.modDevice d f).resetHeld = s.resetHeld := rfl
@[simp] theorem State.modDevice_now : (s.modDevice d f).now = s.now := rfl
@[simp] theorem State.modDevice_settings : (s.modDevice d f).settings = s.settings := rfl
@[simp] theorem State.modDevice_scan : (s.modDevice d f).scan = s.scan := rfl
@[simp] theorem State.modDevice_track : (s.modDevice d f).track = s.track := rfl
@[simp] theorem State.modDevice_game : (s.modDevice d f).game = s.game := rfl
@[simp] theorem State.modDevice_lock : (s.modDevice d f).lock = s.lock := rfl
@[simp] theorem State.modDevice_mode : (s.modDevice d f).mode = s.mode := rfl
@[simp] theorem State.modDevice_hit : (s.modDevice d f).hit = s.hit := rfl
@[simp] theorem State.modDevice_score : (s.modDevice d f).score = s.score := rfl
@[simp] theorem State.modDevice_link : (s.modDevice d f).link = s.link := rfl
@[simp] theorem State.modDevice_out : (s.modDevice d f).out = s.out := rfl
end

section
variable (p : PlayerId) (f : Player → Player)
@[simp] theorem State.modRecord_pending : (s.modRecord p f).pending = s.pending := rfl
@[simp] theorem State.modRecord_resetHeld : (s.modRecord p f).resetHeld = s.resetHeld := rfl
@[simp] theorem State.modRecord_now : (s.modRecord p f).now = s.now := rfl
@[simp] theorem State.modRecord_settings : (s.modRecord p f).settings = s.settings := rfl
@[simp] theorem State.modRecord_scan : (s.modRecord p f).scan = s.scan := rfl
@[simp] theorem State.modRecord_dev : (s.modRecord p f).dev = s.dev := rfl
@[simp] theorem State.modRecord_track : (s.modRecord p f).track = s.track := rfl
@[simp] theorem State.modRecord_lock : (s.modRecord p f).lock = s.lock := rfl
@[simp] theorem State.modRecord_mode : (s.modRecord p f).mode = s.mode := rfl
@[simp] theorem State.modRecord_hit : (s.modRecord p f).hit = s.hit := rfl
@[simp] theorem State.modRecord_score : (s.modRecord p f).score = s.score := rfl
@[simp] theorem State.modRecord_link : (s.modRecord p f).link = s.link := rfl
@[simp] theorem State.modRecord_out : (s.modRecord p f).out = s.out := rfl
end

section
variable (p : PlayerId) (v : Fin 16) (f : Nat → Nat)
@[simp] theorem State.modVar_pending : (s.modVar p v f).pending = s.pending := rfl
@[simp] theorem State.modVar_resetHeld : (s.modVar p v f).resetHeld = s.resetHeld := rfl
@[simp] theorem State.modVar_now : (s.modVar p v f).now = s.now := rfl
@[simp] theorem State.modVar_settings : (s.modVar p v f).settings = s.settings := rfl
@[simp] theorem State.modVar_scan : (s.modVar p v f).scan = s.scan := rfl
@[simp] theorem State.modVar_dev : (s.modVar p v f).dev = s.dev := rfl
@[simp] theorem State.modVar_track : (s.modVar p v f).track = s.track := rfl
@[simp] theorem State.modVar_game : (s.modVar p v f).game = s.game := rfl
@[simp] theorem State.modVar_lock : (s.modVar p v f).lock = s.lock := rfl
@[simp] theorem State.modVar_mode : (s.modVar p v f).mode = s.mode := rfl
@[simp] theorem State.modVar_score : (s.modVar p v f).score = s.score := rfl
@[simp] theorem State.modVar_link : (s.modVar p v f).link = s.link := rfl
@[simp] theorem State.modVar_out : (s.modVar p v f).out = s.out := rfl
end

section
variable (j : Fin 8) (f : Pool → Pool)
@[simp] theorem State.modPool_pending : (s.modPool j f).pending = s.pending := rfl
@[simp] theorem State.modPool_resetHeld : (s.modPool j f).resetHeld = s.resetHeld := rfl
@[simp] theorem State.modPool_now : (s.modPool j f).now = s.now := rfl
@[simp] theorem State.modPool_settings : (s.modPool j f).settings = s.settings := rfl
@[simp] theorem State.modPool_scan : (s.modPool j f).scan = s.scan := rfl
@[simp] theorem State.modPool_dev : (s.modPool j f).dev = s.dev := rfl
@[simp] theorem State.modPool_track : (s.modPool j f).track = s.track := rfl
@[simp] theorem State.modPool_game : (s.modPool j f).game = s.game := rfl
@[simp] theorem State.modPool_lock : (s.modPool j f).lock = s.lock := rfl
@[simp] theorem State.modPool_mode : (s.modPool j f).mode = s.mode := rfl
@[simp] theorem State.modPool_hit : (s.modPool j f).hit = s.hit := rfl
@[simp] theorem State.modPool_link : (s.modPool j f).link = s.link := rfl
@[simp] theorem State.modPool_out : (s.modPool j f).out = s.out := rfl
end

section
variable (n : SwitchId) (f : Switch → Switch)
@[simp] theorem State.modSwitch_pending : (s.modSwitch n f).pending = s.pending := rfl
@[simp] theorem State.modSwitch_resetHeld : (s.modSwitch n f).resetHeld = s.resetHeld := rfl
@[simp] theorem State.modSwitch_now : (s.modSwitch n f).now = s.now := rfl
@[simp] theorem State.modSwitch_settings : (s.modSwitch n f).settings = s.settings := rfl
@[simp] theorem State.modSwitch_dev : (s.modSwitch n f).dev = s.dev := rfl
@[simp] theorem State.modSwitch_track : (s.modSwitch n f).track = s.track := rfl
@[simp] theorem State.modSwitch_game : (s.modSwitch n f).game = s.game := rfl
@[simp] theorem State.modSwitch_lock : (s.modSwitch n f).lock = s.lock := rfl
@[simp] theorem State.modSwitch_mode : (s.modSwitch n f).mode = s.mode := rfl
@[simp] theorem State.modSwitch_hit : (s.modSwitch n f).hit = s.hit := rfl
@[simp] theorem State.modSwitch_score : (s.modSwitch n f).score = s.score := rfl
@[simp] theorem State.modSwitch_link : (s.modSwitch n f).link = s.link := rfl
@[simp] theorem State.modSwitch_out : (s.modSwitch n f).out = s.out := rfl
end

section
variable (f : Player → Player)
@[simp] theorem State.modCurrent_pending : (s.modCurrent f).pending = s.pending := by
  unfold State.modCurrent; split <;> rfl
@[simp] theorem State.modCurrent_resetHeld : (s.modCurrent f).resetHeld = s.resetHeld := by
  unfold State.modCurrent; split <;> rfl
@[simp] theorem State.modCurrent_now : (s.modCurrent f).now = s.now := by
  unfold State.modCurrent; split <;> rfl
@[simp] theorem State.modCurrent_settings : (s.modCurrent f).settings = s.settings := by
  unfold State.modCurrent; split <;> rfl
@[simp] theorem State.modCurrent_scan : (s.modCurrent f).scan = s.scan := by
  unfold State.modCurrent; split <;> rfl
@[simp] theorem State.modCurrent_dev : (s.modCurrent f).dev = s.dev := by
  unfold State.modCurrent; split <;> rfl
@[simp] theorem State.modCurrent_track : (s.modCurrent f).track = s.track := by
  unfold State.modCurrent; split <;> rfl
@[simp] theorem State.modCurrent_lock : (s.modCurrent f).lock = s.lock := by
  unfold State.modCurrent; split <;> rfl
@[simp] theorem State.modCurrent_mode : (s.modCurrent f).mode = s.mode := by
  unfold State.modCurrent; split <;> rfl
@[simp] theorem State.modCurrent_hit : (s.modCurrent f).hit = s.hit := by
  unfold State.modCurrent; split <;> rfl
@[simp] theorem State.modCurrent_score : (s.modCurrent f).score = s.score := by
  unfold State.modCurrent; split <;> rfl
@[simp] theorem State.modCurrent_link : (s.modCurrent f).link = s.link := by
  unfold State.modCurrent; split <;> rfl
@[simp] theorem State.modCurrent_out : (s.modCurrent f).out = s.out := by
  unfold State.modCurrent; split <;> rfl
end

section
variable (p : PlayerId) (d : DeviceId) (f : Lock → Lock)
@[simp] theorem State.modLockAt_pending : (s.modLockAt p d f).pending = s.pending := by
  unfold State.modLockAt; split <;> rfl
@[simp] theorem State.modLockAt_resetHeld : (s.modLockAt p d f).resetHeld = s.resetHeld := by
  unfold State.modLockAt; split <;> rfl
@[simp] theorem State.modLockAt_now : (s.modLockAt p d f).now = s.now := by
  unfold State.modLockAt; split <;> rfl
@[simp] theorem State.modLockAt_settings : (s.modLockAt p d f).settings = s.settings := by
  unfold State.modLockAt; split <;> rfl
@[simp] theorem State.modLockAt_scan : (s.modLockAt p d f).scan = s.scan := by
  unfold State.modLockAt; split <;> rfl
@[simp] theorem State.modLockAt_dev : (s.modLockAt p d f).dev = s.dev := by
  unfold State.modLockAt; split <;> rfl
@[simp] theorem State.modLockAt_track : (s.modLockAt p d f).track = s.track := by
  unfold State.modLockAt; split <;> rfl
@[simp] theorem State.modLockAt_game : (s.modLockAt p d f).game = s.game := by
  unfold State.modLockAt; split <;> rfl
@[simp] theorem State.modLockAt_mode : (s.modLockAt p d f).mode = s.mode := by
  unfold State.modLockAt; split <;> rfl
@[simp] theorem State.modLockAt_hit : (s.modLockAt p d f).hit = s.hit := by
  unfold State.modLockAt; split <;> rfl
@[simp] theorem State.modLockAt_score : (s.modLockAt p d f).score = s.score := by
  unfold State.modLockAt; split <;> rfl
@[simp] theorem State.modLockAt_link : (s.modLockAt p d f).link = s.link := by
  unfold State.modLockAt; split <;> rfl
@[simp] theorem State.modLockAt_out : (s.modLockAt p d f).out = s.out := by
  unfold State.modLockAt; split <;> rfl
end

/-! ## Tables of fixed size -/

section
variable {α : Type} {n : Nat}

@[simp] theorem upd_getElem (t : Vector α n) (i : Fin n) (f : α → α) (k : Nat) (h : k < n) :
    (upd t i f)[k] = if i.val = k then f t[i.val] else t[k] := by
  simp only [upd, Vector.getElem_set, Fin.getElem_fin]

theorem upd_get (t : Vector α n) (i j : Fin n) (f : α → α) :
    (upd t i f)[j] = if i = j then f t[i] else t[j] := by
  simp only [Fin.getElem_fin, upd_getElem, Fin.ext_iff]

@[simp] theorem updAll_getElem (t : Vector α n) (f : Fin n → α → α) (k : Nat) (h : k < n) :
    (updAll t f)[k] = f ⟨k, h⟩ t[k] := by
  simp [updAll]

theorem updAll_get (t : Vector α n) (f : Fin n → α → α) (j : Fin n) : (updAll t f)[j] = f j t[j] := by
  simp

end

/-! ## Devices, records, locks, variables, pools, switches -/

@[simp] theorem State.modDevice_device (d e : DeviceId) (f : Device → Device) :
    (s.modDevice d f).device e = if d = e then f (s.device d) else s.device e := by
  simp only [State.device, State.modDevice, State.modDev_dev, upd_get]

theorem State.modDevice_same (d : DeviceId) (f : Device → Device) : (s.modDevice d f).device d = f (s.device d) := by
  simp

theorem State.modDevice_other {d e : DeviceId} (h : d ≠ e) (f : Device → Device) :
    (s.modDevice d f).device e = s.device e := by
  simp [h]

@[simp] theorem State.modDevice_dev_launchAt (d : DeviceId) (f : Device → Device) :
    (s.modDevice d f).dev.launchAt = s.dev.launchAt := rfl
@[simp] theorem State.modDevice_dev_autoAt (d : DeviceId) (f : Device → Device) :
    (s.modDevice d f).dev.autoAt = s.dev.autoAt := rfl
@[simp] theorem State.modDevice_dev_late (d : DeviceId) (f : Device → Device) :
    (s.modDevice d f).dev.late = s.dev.late := rfl
@[simp] theorem State.modDevice_dev_reconciling (d : DeviceId) (f : Device → Device) :
    (s.modDevice d f).dev.reconciling = s.dev.reconciling := rfl

@[simp] theorem State.modRecord_record (p q : PlayerId) (f : Player → Player) :
    (s.modRecord p f).record q = if p = q then f (s.record p) else s.record q := by
  simp only [State.record, State.modRecord, State.modGame_game, upd_get]

@[simp] theorem State.modRecord_game_state (p : PlayerId) (f : Player → Player) :
    (s.modRecord p f).game.state = s.game.state := rfl
@[simp] theorem State.modCurrent_game_state (f : Player → Player) : (s.modCurrent f).game.state = s.game.state := by
  unfold State.modCurrent; split <;> rfl
@[simp] theorem State.modRecord_game_players (p : PlayerId) (f : Player → Player) :
    (s.modRecord p f).game.players = s.game.players := rfl
@[simp] theorem State.modCurrent_game_players (f : Player → Player) : (s.modCurrent f).game.players = s.game.players := by
  unfold State.modCurrent; split <;> rfl
@[simp] theorem State.modRecord_game_current (p : PlayerId) (f : Player → Player) :
    (s.modRecord p f).game.current = s.game.current := rfl
@[simp] theorem State.modCurrent_game_current (f : Player → Player) : (s.modCurrent f).game.current = s.game.current := by
  unfold State.modCurrent; split <;> rfl
@[simp] theorem State.modRecord_game_ball (p : PlayerId) (f : Player → Player) :
    (s.modRecord p f).game.ball = s.game.ball := rfl
@[simp] theorem State.modCurrent_game_ball (f : Player → Player) : (s.modCurrent f).game.ball = s.game.ball := by
  unfold State.modCurrent; split <;> rfl
@[simp] theorem State.modRecord_game_tilted (p : PlayerId) (f : Player → Player) :
    (s.modRecord p f).game.tilted = s.game.tilted := rfl
@[simp] theorem State.modCurrent_game_tilted (f : Player → Player) : (s.modCurrent f).game.tilted = s.game.tilted := by
  unfold State.modCurrent; split <;> rfl
@[simp] theorem State.modRecord_game_lastWarning (p : PlayerId) (f : Player → Player) :
    (s.modRecord p f).game.lastWarning = s.game.lastWarning := rfl
@[simp] theorem State.modCurrent_game_lastWarning (f : Player → Player) : (s.modCurrent f).game.lastWarning = s.game.lastWarning := by
  unfold State.modCurrent; split <;> rfl
@[simp] theorem State.modRecord_game_multiball (p : PlayerId) (f : Player → Player) :
    (s.modRecord p f).game.multiball = s.game.multiball := rfl
@[simp] theorem State.modCurrent_game_multiball (f : Player → Player) : (s.modCurrent f).game.multiball = s.game.multiball := by
  unfold State.modCurrent; split <;> rfl
@[simp] theorem State.modRecord_game_save (p : PlayerId) (f : Player → Player) :
    (s.modRecord p f).game.save = s.game.save := rfl
@[simp] theorem State.modCurrent_game_save (f : Player → Player) : (s.modCurrent f).game.save = s.game.save := by
  unfold State.modCurrent; split <;> rfl
@[simp] theorem State.modRecord_game_saveLeft (p : PlayerId) (f : Player → Player) :
    (s.modRecord p f).game.saveLeft = s.game.saveLeft := rfl
@[simp] theorem State.modCurrent_game_saveLeft (f : Player → Player) : (s.modCurrent f).game.saveLeft = s.game.saveLeft := by
  unfold State.modCurrent; split <;> rfl

theorem State.modCurrent_record {p : PlayerId} (h : s.game.current = some p) (q : PlayerId) (f : Player → Player) :
    (s.modCurrent f).record q = if p = q then f (s.record p) else s.record q := by
  simp [State.modCurrent, h]

@[simp] theorem State.modVar_var (p q : PlayerId) (v w : Fin 16) (f : Nat → Nat) :
    (s.modVar p v f).var q w = if p = q ∧ v = w then f (s.var p v) else s.var q w := by
  simp only [State.var, State.modVar, State.modHit_hit, upd_get]
  by_cases h : p = q
  · subst h; simp only [if_true, true_and, upd_get]
  · simp only [h, if_false, false_and]

@[simp] theorem State.modVar_hit_queue (p : PlayerId) (v : Fin 16) (f : Nat → Nat) :
    (s.modVar p v f).hit.queue = s.hit.queue := rfl
@[simp] theorem State.modVar_hit_awards (p : PlayerId) (v : Fin 16) (f : Nat → Nat) :
    (s.modVar p v f).hit.awards = s.hit.awards := rfl

@[simp] theorem State.modPool_pool (j k : Fin 8) (f : Pool → Pool) :
    (s.modPool j f).pool k = if j = k then f (s.pool j) else s.pool k := by
  simp only [State.pool, State.modPool, State.modScore_score, upd_get]

@[simp] theorem State.modPool_thresholds (j : Fin 8) (f : Pool → Pool) :
    (s.modPool j f).score.thresholds = s.score.thresholds := rfl

@[simp] theorem State.modSwitch_switch (m n : SwitchId) (f : Switch → Switch) :
    (s.modSwitch m f).switch n = if m = n then f (s.switch m) else s.switch n := by
  simp only [State.switch, State.modSwitch, State.modScan_scan, upd_get]

@[simp] theorem State.modSwitch_scan_sampled (n : SwitchId) (f : Switch → Switch) :
    (s.modSwitch n f).scan.sampled = s.scan.sampled := rfl
@[simp] theorem State.modSwitch_scan_raw (n : SwitchId) (f : Switch → Switch) :
    (s.modSwitch n f).scan.raw = s.scan.raw := rfl
@[simp] theorem State.modSwitch_scan_sources (n : SwitchId) (f : Switch → Switch) :
    (s.modSwitch n f).scan.sources = s.scan.sources := rfl
@[simp] theorem State.modSwitch_scan_classes (n : SwitchId) (f : Switch → Switch) :
    (s.modSwitch n f).scan.classes = s.scan.classes := rfl
@[simp] theorem State.modSwitch_scan_power (n : SwitchId) (f : Switch → Switch) :
    (s.modSwitch n f).scan.power = s.scan.power := rfl
@[simp] theorem State.modSwitch_scan_highRun (n : SwitchId) (f : Switch → Switch) :
    (s.modSwitch n f).scan.highRun = s.scan.highRun := rfl
@[simp] theorem State.modSwitch_scan_lowRun (n : SwitchId) (f : Switch → Switch) :
    (s.modSwitch n f).scan.lowRun = s.scan.lowRun := rfl

/-- A lock record is reached through its own setter alone. -/
theorem State.modLockAt_lockAt (p q : PlayerId) (d e : DeviceId) (f : Lock → Lock) :
    (s.modLockAt p d f).lockAt q e =
      if p = q ∧ d = e ∧ 2 ≤ d.val then f (s.lockAt p d) else s.lockAt q e := by
  by_cases hd : 2 ≤ d.val
  · by_cases he : 2 ≤ e.val
    · by_cases hp : p = q
      · subst hp
        by_cases hde : d = e
        · subst hde; simp [State.modLockAt, State.lockAt, lockIndex, hd]
        · have : ¬(d.val - 2 = e.val - 2) := fun h => hde (Fin.ext (by omega))
          simp [State.modLockAt, State.lockAt, lockIndex, hd, he, hde, this]
      · have : ¬(p.val = q.val) := fun h => hp (Fin.ext h)
        simp [State.modLockAt, State.lockAt, lockIndex, hd, he, hp, this]
    · have : d ≠ e := fun h => he (h ▸ hd)
      simp [State.lockAt, lockIndex, he, this]
  · simp [State.modLockAt, lockIndex, hd]

/-! ## Views of the state that an update of another block leaves -/

@[simp] theorem State.device_report (r : Report) (d : DeviceId) : (s.report r).device d = s.device d := rfl
@[simp] theorem State.device_notice (n : Notice) (d : DeviceId) : (s.notice n).device d = s.device d := rfl
@[simp] theorem State.device_modScan (f : Scanner → Scanner) (d : DeviceId) : (s.modScan f).device d = s.device d := rfl
@[simp] theorem State.device_modTrack (f : Tracker → Tracker) (d : DeviceId) : (s.modTrack f).device d = s.device d := rfl
@[simp] theorem State.device_modGame (f : Game → Game) (d : DeviceId) : (s.modGame f).device d = s.device d := rfl
@[simp] theorem State.device_modLock (f : LockUnit → LockUnit) (d : DeviceId) : (s.modLock f).device d = s.device d := rfl
@[simp] theorem State.device_modMode (f : ModeUnit → ModeUnit) (d : DeviceId) : (s.modMode f).device d = s.device d := rfl
@[simp] theorem State.device_modHit (f : HitUnit → HitUnit) (d : DeviceId) : (s.modHit f).device d = s.device d := rfl
@[simp] theorem State.device_modScore (f : ScoreUnit → ScoreUnit) (d : DeviceId) : (s.modScore f).device d = s.device d := rfl
@[simp] theorem State.device_modLink (f : LinkUnit → LinkUnit) (d : DeviceId) : (s.modLink f).device d = s.device d := rfl

/-! ## A device's own setters -/

@[simp] theorem Device.withHeld_held (v : Device) (l : List Held) : (v.withHeld l).held = l := rfl
@[simp] theorem Device.withHeld_record (v : Device) (l : List Held) : (v.withHeld l).record = v.record := rfl
@[simp] theorem Device.withHeld_copies (v : Device) (l : List Held) : (v.withHeld l).copies = v.copies := rfl
@[simp] theorem Device.withHeld_settled (v : Device) (l : List Held) : (v.withHeld l).settled = v.settled := rfl
@[simp] theorem Device.withHeld_settleAt (v : Device) (l : List Held) : (v.withHeld l).settleAt = v.settleAt := rfl
@[simp] theorem Device.withHeld_queue (v : Device) (l : List Held) : (v.withHeld l).queue = v.queue := rfl
@[simp] theorem Device.withHeld_eject (v : Device) (l : List Held) : (v.withHeld l).eject = v.eject := rfl
@[simp] theorem Device.withHeld_attempts (v : Device) (l : List Held) : (v.withHeld l).attempts = v.attempts := rfl
@[simp] theorem Device.withSettled_held (v : Device) (n : Nat) : (v.withSettled n).held = v.held := rfl
@[simp] theorem Device.withSettled_record (v : Device) (n : Nat) : (v.withSettled n).record = v.record := rfl
@[simp] theorem Device.withSettled_copies (v : Device) (n : Nat) : (v.withSettled n).copies = v.copies := rfl
@[simp] theorem Device.withSettled_settled (v : Device) (n : Nat) : (v.withSettled n).settled = n := rfl
@[simp] theorem Device.withSettled_settleAt (v : Device) (n : Nat) : (v.withSettled n).settleAt = v.settleAt := rfl
@[simp] theorem Device.withSettled_queue (v : Device) (n : Nat) : (v.withSettled n).queue = v.queue := rfl
@[simp] theorem Device.withSettled_eject (v : Device) (n : Nat) : (v.withSettled n).eject = v.eject := rfl
@[simp] theorem Device.withSettled_attempts (v : Device) (n : Nat) : (v.withSettled n).attempts = v.attempts := rfl

end Sys2Proof.Machine
end

