-- ==== Sys2Proof/Laws/Keeps.lean ====
section
/-! SUPPORT. What the operations of play are made of. A property of the state that the changes of `Keeps` preserve is
preserved by every operation, up to the events of the part: one lemma per operation, and an invariant is proved by the
changes alone. -/

namespace Sys2Proof.Machine

/-- The device waits for a grant (R28). -/
def Device.waiting (v : Device) : Bool :=
  match v.eject with
  | .waitCoil _ => true
  | _ => false

/-- A change of a device that starts no pulse and no wait for a grant, moves no ball and keeps the record. -/
structure Still (v w : Device) : Prop where
  record : w.record = v.record
  held : w.held.length = v.held.length
  pulsing : w.pulsing = true → v.pulsing = true
  waiting : w.waiting = true → v.waiting = true

/-- The changes of which the operations of play are made. -/
structure Keeps (P : State → Prop) : Prop where
  out : ∀ (l : List Report) s, P s → P { s with out := l }
  notice : ∀ (n : Notice) s, P s → P (s.notice n)
  track : ∀ (n : Nat) s, P s → P (s.modTrack fun t => { t with lastActivity := n })
  search : ∀ (x : Search) s, P s → P (s.modTrack fun t => { t with search := x })
  giveUp : ∀ s : State, P s →
    P (s.modTrack fun t => { t with free := 0, missing := t.missing + s.track.free, search := .idle })
  device : ∀ (d : DeviceId) f s, Still (s.device d) (f (s.device d)) → P s → P (s.modDevice d f)
  devices : ∀ (f : DeviceId → Device → Device) s, (∀ d, Still (s.device d) (f d (s.device d))) → P s →
    P (s.modDev fun u => { u with devices := updAll u.devices f })
  unit : ∀ f s, (∀ u, (f u).devices = u.devices) → P s → P (s.modDev f)
  readiness : ∀ d s, P s → P (Machine.readiness d s)
  grant : ∀ d s, s.pulsingCount < 2 → (s.device d).waiting = true → P s → P (Machine.grant d s)
  takeFree : ∀ d t s, 1 ≤ s.track.free → P s → P (appendHeld d t (Machine.takeFree s))
  takeMissing : ∀ d t s, 1 ≤ s.track.missing → P s → P (appendHeld d t (Machine.takeMissing s))
  toFree : ∀ d i s, i < (s.device d).held.length → P s →
    P ((s.modDevice d fun v => v.withHeld (v.held.eraseIdx i)).modTrack fun t => { t with free := t.free + 1 })
  toLane : ∀ s : State, 1 ≤ (s.device 0).tagged .spare → P s → P (appendHeld 1 .spare (s.modDevice 0 dropSpare))
  loseSpare : ∀ s : State, 1 ≤ (s.device 0).tagged .spare → P s →
    P ((s.modDevice 0 dropSpare).modTrack fun t => { t with free := t.free + 1 })
  scan : ∀ f s, (f s.scan).sources = s.scan.sources → (f s.scan).classes = s.scan.classes → P s → P (s.modScan f)
  game : ∀ f s, (f s.game).records = s.game.records → P s → P (s.modGame f)
  record : ∀ p f s, (∀ r, (f r).score = r.score) → (∀ r, r.Bounded → (f r).Bounded) → P s → P (s.modRecord p f)
  credit : ∀ p points s, P s → P (s.modRecord p fun x =>
    { x with
      score := (creditScore (s.record p).score points).1
      limitReported := x.limitReported || (creditScore (s.record p).score points).2 })
  lock : ∀ f s, P s → P (s.modLock f)
  mode : ∀ f s, (f s.mode).descriptors = s.mode.descriptors → P s → P (s.modMode f)
  hit : ∀ f s, (f s.hit).awards = s.hit.awards →
    (s.hit.queue.length ≤ hitLimit → (f s.hit).queue.length ≤ hitLimit) → P s → P (s.modHit f)
  collect : ∀ j s, P s → P (s.modPool j fun q => q.setCurrent s.game.current q.base)
  grow : ∀ j v s, P s → P (s.modPool j fun q => q.setCurrent s.game.current (q.grown (q.current s.game.current) v))

namespace Keeps

variable {P : State → Prop} (k : Keeps P) {s : State}
include k

/-! ## Loops and setters -/

theorem report (r : Report) (h : P s) : P (s.report r) := k.out _ _ h

omit k in
theorem forEach {α : Type} (l : List α) {f : α → State → State} (hf : ∀ a s, P s → P (f a s)) :
    ∀ {s}, P s → P (forEach l f s) := by
  induction l with
  | nil => intro s h; exact h
  | cons a as ih => intro s h; exact ih (hf a _ h)

omit k in
theorem times (n : Nat) {f : State → State} (hf : ∀ s, P s → P (f s)) : ∀ {s}, P s → P (times n f s) := by
  induction n with
  | zero => intro s h; exact h
  | succ n ih => intro s h; exact ih (hf _ h)

theorem modCurrent (f : Player → Player) (hs : ∀ r, (f r).score = r.score) (hb : ∀ r, r.Bounded → (f r).Bounded)
    (h : P s) : P (s.modCurrent f) := by
  unfold State.modCurrent; split
  · exact h
  · exact k.record _ _ _ hs hb h

theorem modLockAt (p : PlayerId) (d : DeviceId) (f : Lock → Lock) (h : P s) : P (s.modLockAt p d f) := by
  unfold State.modLockAt; split
  · exact h
  · exact k.lock _ _ h

/-- The head request of a device, its attempt count and its SUSPECT mark change. -/
theorem queue (d : DeviceId) (f : Device → Device) (h1 : ∀ v, (f v).record = v.record) (h2 : ∀ v, (f v).held = v.held)
    (h3 : ∀ v, (f v).eject = v.eject) (h : P s) : P (s.modDevice d f) :=
  k.device d f s ⟨h1 _, by rw [h2], by simp only [Device.pulsing, h3]; exact id,
    by simp only [Device.waiting, h3]; exact id⟩ h

/-- The eject machine of a device goes to a state that is neither PULSING nor WAIT_COIL. -/
theorem eject (d : DeviceId) (f : Device → Device) (h1 : ∀ v, (f v).record = v.record) (h2 : ∀ v, (f v).held = v.held)
    (h3 : (f (s.device d)).pulsing = false) (h4 : (f (s.device d)).waiting = false) (h : P s) : P (s.modDevice d f) :=
  k.device d f s ⟨h1 _, by rw [h2], by rw [h3]; exact Bool.noConfusion, by rw [h4]; exact Bool.noConfusion⟩ h

/-- The entries of a device are retagged. -/
theorem retag (d : DeviceId) (g : List Held → List Held) (hg : ∀ l, (g l).length = l.length) (h : P s) :
    P (s.modDevice d fun v => v.withHeld (g v.held)) :=
  k.device d _ s ⟨rfl, hg _, id, id⟩ h

/-! ## Eject requests and the arbiter -/

omit k in
theorem longestWaiting_waiting {d : DeviceId} {t : Nat} (h : s.longestWaiting = some (d, t)) :
    (s.device d).waiting = true := by
  have key : ∀ (l : List DeviceId) (best : Option (DeviceId × Nat)),
      (∀ e u, best = some (e, u) → (s.device e).waiting = true) →
      ∀ e u, l.foldl (fun best d =>
        match (s.device d).eject, best with
        | .waitCoil t, none => some (d, t)
        | .waitCoil t, some (b, u) => if t < u then some (d, t) else some (b, u)
        | _, b => b) best = some (e, u) → (s.device e).waiting = true := by
    intro l
    induction l with
    | nil => intro best hb e u h; exact hb e u h
    | cons a l ih =>
      intro best hb e u h
      refine ih _ ?_ e u h
      intro e' u' h'
      dsimp only at h'
      split at h'
      · next hw => simp only [Option.some.injEq, Prod.mk.injEq] at h'; rw [← h'.1]; simp [Device.waiting, hw]
      · next hw =>
        split at h'
        · simp only [Option.some.injEq, Prod.mk.injEq] at h'; rw [← h'.1]; simp [Device.waiting, hw]
        · exact hb _ _ h'
      · exact hb _ _ h'
  exact key _ _ (by intro _ _ h; exact absurd h (by simp)) d t h

theorem grantOne (h : P s) : P (grantOne s) := by
  unfold Machine.grantOne; split
  · split
    · exact h
    · next hw => exact k.grant _ _ ‹_› (longestWaiting_waiting hw) h
  · exact h

theorem arbitrate (h : P s) : P (arbitrate s) := k.grantOne (k.grantOne h)

theorem testReadiness (d : DeviceId) (h : P s) : P (testReadiness d s) := k.arbitrate (k.readiness d _ h)

theorem poke (d : DeviceId) (h : P s) : P (poke d s) := by
  unfold Machine.poke; split
  · exact k.testReadiness d h
  · exact h

theorem retest (b : Bool) (d : DeviceId) (h : P s) : P (retest b d s) := by
  unfold Machine.retest
  repeat' split
  all_goals first | exact h | exact k.testReadiness d h

theorem placeRequest (d : DeviceId) (p : Purpose) (n : Nat) (h : P s) : P (placeRequest d p n s) := by
  unfold Machine.placeRequest; dsimp only
  repeat' split
  · exact h
  · exact k.report _ h
  · exact k.poke d (k.queue d _ (fun _ => rfl) (fun _ => rfl) (fun _ => rfl) h)

theorem removeRequests (d : DeviceId) (p : Purpose) (h : P s) : P (removeRequests d p s) := by
  unfold Machine.removeRequests; dsimp only
  repeat' split
  · exact h
  · exact k.retest _ d (k.queue d _ (fun _ => rfl) (fun _ => rfl) (fun _ => rfl) h)
  · exact k.queue d _ (fun _ => rfl) (fun _ => rfl) (fun _ => rfl) h

theorem withdrawServe (h : P s) : P (withdrawServe s) := by
  unfold Machine.withdrawServe
  exact k.retest _ 0 (k.queue 0 _ (fun _ => rfl) (fun _ => rfl) (fun _ => rfl) h)

theorem releaseTagged (w : Tag → Bool) (d : DeviceId) (h : P s) : P (releaseTagged w d s) := by
  unfold Machine.releaseTagged; dsimp only
  split
  · exact h
  · exact k.placeRequest _ _ _ (k.retag d (List.map _) (fun l => List.length_map _) h)

/-! ## The hit queue -/

omit k in
theorem placeClosure_length {x : SourceId} {t : Stamp} {q q' : List Hit} (h : placeClosure x t q = some q')
    (hq : q.length ≤ hitLimit) : q'.length ≤ hitLimit := by
  unfold placeClosure at h
  split at h
  · next hl =>
    have hne : q ≠ [] := by rintro rfl; simp at hl
    have : 0 < q.length := List.length_pos_iff.mpr hne
    repeat' split at h
    all_goals simp only [Option.some.injEq, reduceCtorEq] at h
    · subst h; simp; omega
    · subst h; simp; omega
  · simp only [Option.some.injEq] at h
    subst h; simp [hitLimit]

theorem offerClosure (x : SourceId) (h : P s) : P (offerClosure x s) := by
  unfold Machine.offerClosure; split
  · next hq => exact k.hit _ _ rfl (fun hl => placeClosure_length hq hl) h
  · exact k.notice _ _ h

theorem appendHit (x : SourceId) (hl : s.hit.queue.length < hitLimit) (h : P s) : P (appendHit x s) := by
  have h' : P (s.modHit fun u => { u with queue := u.queue ++ [⟨x, s.clock, 1⟩] }) :=
    k.hit _ _ rfl (fun _ => by simp; omega) h
  unfold Machine.appendHit; dsimp only; split
  · exact k.report _ h'
  · exact h'

theorem deviceHit (d : DeviceId) (h : P s) : P (deviceHit d s) := by
  unfold Machine.deviceHit
  repeat' split
  · exact k.appendHit _ ‹_› h
  · exact k.notice _ _ h
  · exact h

/-! ## The Ball Tracker -/

theorem withdrawSearches (h : P s) : P (withdrawSearches s) :=
  forEach _ (fun d _ h => k.removeRequests d _ h) h

theorem endSearch (c : SearchCause) (h : P s) : P (endSearch c s) := by
  unfold Machine.endSearch; split
  · exact h
  · exact k.report _ (k.withdrawSearches (k.search _ _ h))

theorem activity (h : P s) : P (activity s) := k.endSearch _ (k.track _ _ h)

theorem searchAt (r : Nat) (d : Option DeviceId) (h : P s) : P (searchAt r d s) := by
  unfold Machine.searchAt; dsimp only; split
  · exact k.search _ _ h
  · exact k.placeRequest _ _ _ (k.search _ _ h)

theorem giveUp' (h : P s) : P (Machine.giveUp s) :=
  k.withdrawSearches (k.notice _ _ (k.report _ (k.giveUp _ h)))

theorem stepSearch (h : P s) : P (stepSearch s) := by
  unfold Machine.stepSearch
  repeat' split
  · exact h
  · exact k.searchAt _ _ h
  · exact k.giveUp' h
  · exact k.searchAt _ _ h

theorem testSearch (h : P s) : P (testSearch s) := by
  unfold Machine.testSearch; split
  · exact k.stepSearch (k.report _ (k.search _ _ h))
  · exact h

/-! ## Score and pools -/

theorem testThresholds (p : PlayerId) (h : P s) : P (testThresholds p s) := by
  unfold Machine.testThresholds; dsimp only; split
  · exact h
  · exact k.report _ (k.record _ _ _ (fun _ => rfl) (fun _ b => ⟨b.score, b.bonus, b.bonusMult, b.fieldMult, b.extraBalls⟩) h)

theorem creditTo (p : PlayerId) (n : Nat) (h : P s) : P (creditTo p n s) := by
  unfold Machine.creditTo; dsimp only
  refine k.testThresholds p ?_
  split
  · exact k.report _ (k.credit p n _ h)
  · exact k.credit p n _ h

theorem credit' (n : Nat) (h : P s) : P (Machine.credit n s) := by
  unfold Machine.credit; split
  · exact h
  · exact k.creditTo _ _ h

omit k in
theorem clearBonus_bounded (r : Player) (b : r.Bounded) : r.clearBonus.Bounded :=
  ⟨b.score, by simp [Player.clearBonus], by simp [Player.clearBonus], b.fieldMult, b.extraBalls⟩

theorem settleBonus (h : P s) : P (settleBonus s) := by
  unfold Machine.settleBonus
  repeat' split
  · exact h
  · exact k.record _ _ _ (fun _ => rfl) clearBonus_bounded h
  · exact k.record _ _ _ (fun _ => rfl) clearBonus_bounded (k.creditTo _ _ h)

theorem poolEffect (src : Points) (v : Nat) (h : P s) : P (poolEffect src v s) := by
  unfold Machine.poolEffect; split
  · exact h
  · exact k.collect _ _ h
  · exact k.grow _ _ _ h

/-! ## Modes -/

theorem modFrame (m : ModeId) (f : Frame → Frame) (h : P s) : P (modFrame m f s) := k.mode _ _ rfl h

theorem pushFrame (o : StartOutcome) (g : StartOrigin) (c : Carried) (h : P s) : P (pushFrame o g c s) :=
  k.report _ (k.mode _ _ rfl h)

theorem endFrame (r : EndReason) (f : Frame) (h : P s) : P (endFrame r f s) := k.report _ (k.mode _ _ rfl h)

theorem endFrames (r : EndReason) (t : Descriptor → Bool) (h : P s) : P (endFrames r t s) :=
  forEach _ (fun f _ h => k.endFrame r f h) h

theorem abortStack (h : P s) : P (abortStack s) := k.mode _ _ rfl h
theorem abortCarried (p : PlayerId) (h : P s) : P (abortCarried p s) := k.mode _ _ rfl h
theorem abortAllCarried (h : P s) : P (abortAllCarried s) := k.mode _ _ rfl h

theorem suspendFrames (h : P s) : P (suspendFrames s) := by
  unfold Machine.suspendFrames; split
  · exact k.abortStack h
  · exact k.mode _ _ rfl h

theorem restoreFrames (h : P s) : P (restoreFrames s) := by
  unfold Machine.restoreFrames; split
  · exact h
  · exact forEach _ (fun c _ h => k.pushFrame _ _ c h) (k.abortCarried _ h)

theorem refuseStart (m : ModeId) (o : StartOutcome) (g : StartOrigin) (x : Option ModeId) (h : P s) :
    P (refuseStart m o g x s).1 := k.report _ h

theorem reportStart (m : ModeId) (o : StartOutcome) (g : StartOrigin) (h : P s) : P (reportStart m o g s) := by
  unfold Machine.reportStart; split
  · exact h
  · exact k.report _ h

theorem startRunning (m : ModeId) (g : StartOrigin) (h : P s) : P (startRunning m g s).1 := by
  unfold Machine.startRunning; dsimp only; split
  · exact h
  · exact k.reportStart _ _ _ (k.modFrame _ _ h)
  · exact k.reportStart _ _ _ (k.modFrame _ _ h)

theorem pushFresh (m : ModeId) (g : StartOrigin) (h : P s) : P (pushFresh m g s).1 := k.pushFrame _ _ _ h

theorem startFull (m : ModeId) (g : StartOrigin) (h : P s) : P (startFull m g s).1 := by
  unfold Machine.startFull
  repeat' split
  · exact k.pushFresh _ _ h
  · exact k.pushFresh _ _ (k.endFrame _ _ h)
  · exact k.refuseStart _ _ _ _ h

theorem startMode (m : ModeId) (g : StartOrigin) (h : P s) : P (startMode m g s).1 := by
  unfold Machine.startMode
  repeat' split
  all_goals first
    | exact k.refuseStart _ _ _ _ h
    | exact k.startRunning _ _ h
    | exact k.startFull _ _ h
    | exact k.pushFresh _ _ h

theorem stopFrame (m : ModeId) (h : P s) : P (stopFrame m s) := by
  unfold Machine.stopFrame; split
  · exact h
  · exact k.endFrame _ _ h

theorem stopCarried (m : ModeId) (p : PlayerId) (c : Carried) (h : P s) : P (stopCarried m p c s) :=
  k.report _ (k.mode _ _ rfl h)

theorem countProgress (m : ModeId) (n : Nat) (h : P s) : P (countProgress m n s) := by
  unfold Machine.countProgress
  repeat' split
  · exact h
  · exact k.report _ (k.modFrame _ _ h)
  · exact k.modFrame _ _ h

theorem advanceCount (f : Frame) (n : Nat) (h : P s) : P (advanceCount f n s).1 := by
  unfold Machine.advanceCount; dsimp only; split
  · exact k.endFrame _ _ h
  · exact k.countProgress _ _ (k.modFrame _ _ h)

theorem advanceFree (f : Frame) (n : Nat) (h : P s) : P (advanceFree f n s).1 := by
  unfold Machine.advanceFree; dsimp only; split
  · exact k.countProgress _ _ (k.modFrame _ _ h)
  · exact k.countProgress _ _ (k.report _ (k.modFrame _ _ h))

theorem advanceMode (m : ModeId) (n : Nat) (h : P s) : P (advanceMode m n s).1 := by
  unfold Machine.advanceMode
  repeat' split
  · exact h
  · exact k.advanceCount _ _ h
  · exact k.advanceFree _ _ h
  · exact k.countProgress _ _ h

theorem expireFrame (f : Frame) (h : P s) : P (expireFrame f s).1 := k.endFrame _ _ h

theorem settleExpiries (h : P s) : P (settleExpiries s) := by
  unfold Machine.settleExpiries; split
  · exact h
  · exact k.mode _ _ rfl h

/-! ## The Game Controller -/

theorem setGameState (g : GameState) (h : P s) : P (setGameState g s) := by
  unfold Machine.setGameState; dsimp only; split
  · exact k.game _ _ rfl h
  · exact k.endSearch _ (k.game _ _ rfl h)

theorem saveOff (h : P s) : P (saveOff s) := k.game _ _ rfl h
theorem setMultiball (b : Bool) (h : P s) : P (setMultiball b s) := k.game _ _ rfl h

theorem clearTilt (h : P s) : P (clearTilt s) :=
  k.modCurrent _ (fun _ => rfl) (fun _ b => ⟨b.score, b.bonus, b.bonusMult, b.fieldMult, b.extraBalls⟩) (k.game _ _ rfl h)

theorem armSave (h : P s) : P (armSave s) := k.game _ _ (by split <;> rfl) h

theorem serveBall (h : P s) : P (serveBall s) := by
  unfold Machine.serveBall; split
  · exact k.setGameState _ h
  · exact k.placeRequest _ _ _ h

theorem ballStart (again : Bool) (h : P s) : P (ballStart again s) := by
  unfold Machine.ballStart
  refine k.serveBall (k.restoreFrames (k.report _ (k.armSave (k.setMultiball _ (k.modCurrent _ (fun _ => rfl) ?_
    (k.clearTilt (k.setGameState _ h)))))))
  exact fun _ b => ⟨b.score, b.bonus, b.bonusMult, by simp, b.extraBalls⟩

theorem launchBall (r : Route) (h : P s) : P (launchBall r s) := by
  have h' := k.report (.ballLaunched (Machine.setGameState .inPlay s).playerNo (Machine.setGameState .inPlay s).game.ball r)
    (k.setGameState .inPlay h)
  unfold Machine.launchBall; dsimp only; split
  · exact k.report _ (k.game _ _ rfl h')
  · exact h'

theorem toldServed (h : P s) : P (toldServed s) := by
  unfold Machine.toldServed; split
  · exact k.setGameState _ h
  · exact h

theorem toldLostServe (h : P s) : P (toldLostServe s) := by
  unfold Machine.toldLostServe; split
  · exact k.launchBall _ h
  · exact h

theorem toldInLane (h : P s) : P (toldInLane s) := by
  unfold Machine.toldInLane; split
  · exact k.setGameState _ (k.withdrawServe h)
  · exact h

theorem toldLaunched (r : Route) (h : P s) : P (toldLaunched r s) := by
  unfold Machine.toldLaunched; split
  · exact k.launchBall _ (k.withdrawServe h)
  · exact k.launchBall _ h
  all_goals exact h

theorem ballOver (h : P s) : P (ballOver s) := by
  unfold Machine.ballOver; dsimp only
  exact k.report _ (k.settleBonus (k.suspendFrames (k.endFrames _ _ (k.setMultiball _ (k.saveOff (k.setGameState _ h))))))

theorem testMultiball (live : Nat) (h : P s) : P (testMultiball live s) := by
  unfold Machine.testMultiball
  repeat' split
  · exact k.setMultiball _ h
  · exact k.endFrames _ _ (k.report _ (k.setMultiball _ h))
  · exact h

theorem tellLive (live : Nat) (h : P s) : P (tellLive live s) := by
  unfold Machine.tellLive
  repeat' split
  all_goals first | exact k.ballOver h | exact k.testMultiball _ h | exact h

theorem tellAfter (b : State) (h : P s) : P (tellAfter b s) := by
  unfold Machine.tellAfter
  repeat' split
  · exact k.tellLive _ h
  · exact k.testMultiball _ h
  · exact h
  · exact h

/-- An event taken whole keeps what its effect and the changes of play keep. -/
theorem whole {f : State → State} (h : P (f s)) : P (whole f s) := k.settleExpiries (k.tellAfter _ h)

theorem releaseHeld (w : Tag → Bool) (h : P s) : P (releaseHeld w s) :=
  forEach _ (fun d _ h => k.releaseTagged w d h) h

theorem gameEnd (h : P s) : P (gameEnd s) := by
  unfold Machine.gameEnd; dsimp only
  exact k.setGameState _ (k.report _ (k.abortAllCarried (k.releaseHeld _ h)))

theorem abandon (r : GameEnd) (h : P s) : P (abandon r s) := by
  unfold Machine.abandon; dsimp only
  exact k.setGameState _ (k.report _ (k.removeRequests _ _ (k.removeRequests _ _ (k.releaseHeld _
    (k.abortAllCarried (k.abortStack (k.setMultiball _ (k.saveOff h))))))))

theorem slamClosure (h : P s) : P (slamClosure s) := by
  unfold Machine.slamClosure; split
  · exact k.abandon _ h
  · exact h

theorem tiltBall (h : P s) : P (tiltBall s) := by
  unfold Machine.tiltBall; dsimp only
  refine k.report _ (k.releaseHeld _ (k.saveOff ?_))
  split
  · exact k.abortStack (k.game _ _ rfl h)
  · exact k.abortCarried _ (k.abortStack (k.game _ _ rfl h))

theorem tiltClosure (h : P s) : P (tiltClosure s) := by
  unfold Machine.tiltClosure; dsimp only
  split
  · exact h
  · next p _ =>
    have h' := k.game (fun g => { g with lastWarning := some s.now }) _ rfl
      (k.record p (fun r => { r with warnings := r.warnings + 1 }) s (fun _ => rfl)
        (fun _ b => ⟨b.score, b.bonus, b.bonusMult, b.fieldMult, b.extraBalls⟩) h)
    repeat' split
    · exact k.tiltBall (k.report _ h')
    · exact k.report _ h'
    · exact h

theorem expireSave (h : P s) : P (expireSave s) := k.report _ (k.saveOff h)

theorem startSave (t : Nat) (h : P s) : P (startSave t s) := by
  unfold Machine.startSave; dsimp only
  repeat' split
  all_goals first | exact h | exact k.report _ (k.game _ _ rfl h) | exact k.game _ _ rfl h

theorem toldDrain (h : P s) : P (toldDrain s) := by
  unfold Machine.toldDrain; split
  · exact k.report _ (k.placeRequest _ _ _ h)
  · exact h

/-! ## The Lock Manager -/

omit k in
theorem modFirst_length (t : Held → Bool) (f : Held → Held) (l : List Held) : (modFirst t f l).length = l.length := by
  induction l with
  | nil => rfl
  | cons h l ih => unfold modFirst; split <;> simp [ih]

omit k in
theorem modLast_length (f : Held → Held) (l : List Held) : (modLast f l).length = l.length := by
  induction l with
  | nil => rfl
  | cons h l ih =>
    cases l with
    | nil => rfl
    | cons x t => simp only [modLast, List.length_cons] at *; omega

theorem lightLockFor (p : PlayerId) (d : DeviceId) (h : P s) : P (lightLockFor p d s).1 := by
  unfold Machine.lightLockFor; dsimp only
  refine k.report _ ?_
  split
  · exact h
  · exact k.modLockAt _ _ _ h

theorem lightLock (d : DeviceId) (h : P s) : P (lightLock d s) := by
  unfold Machine.lightLock
  repeat' split
  · exact h
  · exact k.lightLockFor _ _ h
  · exact h

theorem addBall (h : P s) : P (addBall s).1 := by
  unfold Machine.addBall; dsimp only
  refine k.report _ ?_
  split
  · exact k.placeRequest _ _ _ h
  · exact h

theorem reportDisplaced (d : DeviceId) (q : PlayerId) (c : DisplacedCause) (h : P s) : P (reportDisplaced d q c s) :=
  k.report _ h

theorem reportExit (d : DeviceId) (t : Tag) (h : P s) : P (reportExit d t s) := by
  unfold Machine.reportExit; split
  · exact k.report _ h
  · exact h

theorem releaseNewest (d : DeviceId) (h : P s) : P (releaseNewest d s) :=
  k.placeRequest _ _ _ (k.retag d (modLast Held.release) (modLast_length _) h)

theorem replaceLock (p : PlayerId) (d : DeviceId) (h : P s) : P (replaceLock p d s) := by
  unfold Machine.replaceLock; split
  · exact k.placeRequest _ _ _ h
  · exact k.reportDisplaced _ _ _ (k.releaseNewest _ h)

theorem makeRoom (p : PlayerId) (d : DeviceId) (h : P s) : P (makeRoom p d s) := by
  unfold Machine.makeRoom; dsimp only
  have h' := k.placeRequest d .release 1 (k.retag d (modFirst (isVictim p (s.device d).held) Held.release)
    (modFirst_length _ _) h)
  repeat' split
  all_goals first | exact h | exact k.report _ h' | exact h'

theorem lockMultiball (p : PlayerId) (d : DeviceId) (h : P s) : P (lockMultiball p d s) := by
  unfold Machine.lockMultiball; dsimp only
  refine k.report _ (k.modLockAt _ _ _ ?_)
  split
  · exact k.placeRequest _ _ _ (k.releaseTagged _ _ h)
  · exact k.releaseTagged _ _ h

theorem lockCapture (p : PlayerId) (d : DeviceId) (h : P s) : P (lockCapture p d s) := by
  unfold Machine.lockCapture; dsimp only
  split
  · exact k.lockMultiball _ _ (k.report _ (k.modLockAt _ _ _ h))
  · exact k.makeRoom _ _ (k.replaceLock _ _ (k.report _ (k.modLockAt _ _ _ h)))

theorem releaseAtOnce (d : DeviceId) (h : P s) : P (releaseAtOnce d s) := by
  unfold Machine.releaseAtOnce; split
  · exact k.releaseNewest _ h
  · exact h

theorem carryOut (c : Decision) (d : DeviceId) (h : P s) : P (carryOut c d s) := by
  unfold Machine.carryOut; split
  · exact k.lockCapture _ _ h
  · exact k.releaseAtOnce _ h
  · exact k.placeRequest _ _ _ h

/-! ## Entries and exits -/

theorem reportBallIn (d : DeviceId) (t : Tag) (h : P s) : P (reportBallIn d t s) := k.report _ h

theorem phantomEntry (d : DeviceId) (h : P s) : P (phantomEntry d s) :=
  k.report _ (k.notice _ _ (k.activity (k.queue d _ (fun _ => rfl) (fun _ => rfl) (fun _ => rfl) h)))

theorem drain (hf : 1 ≤ s.track.free) (h : P s) : P (drain s) :=
  k.toldDrain (k.poke _ (k.deviceHit _ (k.reportBallIn _ _ (k.activity (k.takeFree _ _ _ hf h)))))

theorem foundEntry (d : DeviceId) (hm : 1 ≤ s.track.missing) (h : P s) : P (foundEntry d s) := by
  unfold Machine.foundEntry; dsimp only
  have h' : ∀ t : Tag, P _ := fun t => k.activity (k.takeMissing d t s hm h)
  split
  · exact k.poke _ (k.deviceHit _ (k.reportBallIn _ _ (k.report _ (h' _))))
  · exact k.deviceHit _ (k.releaseAtOnce _ (k.reportBallIn _ _ (k.report _ (h' _))))

theorem capture (d : DeviceId) (hf : 1 ≤ s.track.free) (h : P s) : P (capture d s) := by
  unfold Machine.capture; dsimp only
  exact k.deviceHit _ (k.carryOut _ _ (k.reportBallIn _ _ (k.activity (k.takeFree _ _ _ hf h))))

theorem entry (d : DeviceId) (h : P s) : P (entry d s) := by
  unfold Machine.entry
  repeat' split
  · exact k.drain ‹_› h
  · exact k.capture _ ‹_› h
  · exact k.foundEntry _ ‹_› h
  · exact k.phantomEntry _ h

theorem removeToFree (d : DeviceId) (i : Nat) (hi : i < (s.device d).held.length) (h : P s) : P (removeToFree d i s) :=
  k.activity (k.toFree d i s hi h)

theorem reduceRelease (d : DeviceId) (h : P s) : P (reduceRelease d s) := by
  unfold Machine.reduceRelease; dsimp only
  split
  · exact k.retest _ d (k.queue d _ (fun _ => rfl) (fun _ => rfl) (fun _ => rfl) h)
  · exact h

theorem unexpectedExit (d : DeviceId) (h : P s) : P (unexpectedExit d s) := by
  unfold Machine.unexpectedExit; dsimp only
  split
  · exact h
  · split
    · exact h
    · next hi =>
      have hi' := (List.getElem?_eq_some_iff.mp hi).1
      refine k.retest _ d ?_
      split
      · exact k.reduceRelease _ (k.reportExit _ _ (k.report _ (k.removeToFree _ _ hi' h)))
      · exact k.reportExit _ _ (k.report _ (k.removeToFree _ _ hi' h))

theorem unexpectedExits (d : DeviceId) (b n : Nat) (h : P s) : P (unexpectedExits d b n s) :=
  times _ (fun _ h => k.whole (k.unexpectedExit d h)) h

theorem entries (d : DeviceId) (n : Nat) (h : P s) : P (entries d n s) := times _ (fun _ h => k.whole (k.entry d h)) h

/-! ## The ends of an attempt -/

theorem finishHead (d : DeviceId) (n : Nat) (h : P s) : P (finishHead d n s) := by
  unfold Machine.finishHead
  repeat' split
  · exact k.testReadiness _ h
  · exact k.arbitrate (k.eject d _ (fun _ => rfl) (fun _ => rfl) rfl rfl h)
  · exact k.testReadiness _ (k.eject d _ (fun _ => rfl) (fun _ => rfl) rfl rfl h)

theorem failAttempt (d : DeviceId) (c : FailCause) (h : P s) : P (failAttempt d c s) := by
  unfold Machine.failAttempt; dsimp only
  repeat' split
  · exact k.testReadiness _ (k.eject d _ (fun _ => rfl) (fun _ => rfl) rfl rfl (k.report _ h))
  · exact k.arbitrate (k.eject d _ (fun _ => rfl) (fun _ => rfl) rfl rfl (k.report _ h))
  · exact k.arbitrate (k.notice _ _ (k.report _ (k.eject d _ (fun _ => rfl) (fun _ => rfl) rfl rfl (k.report _ h))))

theorem succeed (d : DeviceId) (h : P s) : P (succeed d s) := by
  unfold Machine.succeed; dsimp only
  refine k.finishHead _ _ ?_
  split
  · exact h
  · split
    · exact h
    · next hi => exact k.reportExit _ _ (k.report _ (k.removeToFree _ _ (List.getElem?_eq_some_iff.mp hi).1 h))

/-! ## Settled changes -/

omit k in
theorem withExit_pulsing (t : Nat) (v : Device) (h : ({ v with eject := v.eject.withExit t } : Device).pulsing = true) :
    v.pulsing = true := by
  revert h; unfold Device.pulsing Eject.withExit; cases v.eject <;> simp

omit k in
theorem withExit_waiting (t : Nat) (v : Device) (h : ({ v with eject := v.eject.withExit t } : Device).waiting = true) :
    v.waiting = true := by
  revert h; unfold Device.waiting Eject.withExit; cases v.eject <;> simp

theorem holdIncrease (d : DeviceId) (n : Nat) (h : P s) : P (holdIncrease d n s) := by
  unfold Machine.holdIncrease
  repeat' split
  · exact k.entries _ _ (k.failAttempt _ _ h)
  · exact k.entries _ _ (k.whole (k.succeed _ h))
  · exact k.entries _ _ h

theorem holdDecrease (d : DeviceId) (b n : Nat) (h : P s) : P (holdDecrease d b n s) := by
  unfold Machine.holdDecrease
  repeat' split
  · exact k.unexpectedExits _ _ _ (k.device d _ s ⟨rfl, rfl, withExit_pulsing _ _, withExit_waiting _ _⟩ h)
  · exact k.unexpectedExits _ _ _ h
  · exact k.unexpectedExits _ _ _ (k.whole (k.succeed _ (k.report _ h)))
  · exact k.unexpectedExits _ _ _ h

theorem reconcile (h : P s) : P (reconcile s) := by
  unfold Machine.reconcile; dsimp only
  refine k.poke _ (k.unit _ _ (fun _ => rfl) ?_)
  split
  · exact k.entries _ _ h
  · exact times _ (fun _ h => k.whole (k.unexpectedExit 0 h)) h

theorem beginReconcile (h : P s) : P (beginReconcile s) := by
  unfold Machine.beginReconcile; dsimp only
  split
  · exact k.reconcile (k.unit _ _ (fun _ => rfl) h)
  · exact k.unit _ _ (fun _ => rfl) h

theorem finishServe (h : P s) : P (finishServe s) := k.finishHead _ _ (k.unit _ _ (fun _ => rfl) h)

theorem loseServe (h : P s) : P (loseServe s) := by
  unfold Machine.loseServe; dsimp only
  split
  · exact k.finishServe h
  · next hn => exact k.finishServe (k.toldLostServe (k.report _ (k.activity (k.loseSpare s (by omega) h))))

theorem lostServe (h : P s) : P (lostServe s) := k.beginReconcile (k.whole (k.loseServe h))

theorem openLateExit (h : P s) : P (openLateExit s) := by
  unfold Machine.openLateExit; dsimp only
  refine k.eject 0 _ (fun _ => rfl) (fun _ => rfl) rfl rfl (k.unit _ _ (fun _ => rfl) ?_)
  split
  · exact k.report _ h
  · exact h

theorem troughWindowEnd (h : P s) : P (troughWindowEnd s) := by
  unfold Machine.troughWindowEnd; split
  · exact k.lostServe h
  · exact k.beginReconcile (k.failAttempt _ _ h)

theorem troughSettled (b : Nat) (h : P s) : P (troughSettled b s) := by
  unfold Machine.troughSettled; dsimp only
  repeat' split
  · exact h
  · exact k.reconcile h
  · exact k.entries _ _ h
  · exact k.openLateExit h
  · exact k.unexpectedExits _ _ _ h
  · exact h

theorem startAutoLaunch (h : P s) : P (startAutoLaunch s) := by
  unfold Machine.startAutoLaunch; dsimp only; split
  · exact k.unit _ _ (fun _ => rfl) h
  · exact h

theorem completeServe (hs : 1 ≤ (s.device 0).tagged .spare) (h : P s) : P (completeServe s) := by
  unfold Machine.completeServe; dsimp only
  exact k.finishServe (k.poke _ (k.startAutoLaunch (k.toldServed (k.reportBallIn _ _ (k.report _ (k.toLane s hs h))))))

theorem serveArrival (hs : 1 ≤ (s.device 0).tagged .spare) (h : P s) : P (serveArrival s) :=
  k.beginReconcile (k.whole (k.completeServe hs h))

theorem laneReturn (h : P s) : P (laneReturn s) := by
  unfold Machine.laneReturn; dsimp only
  split
  · next hf => exact k.poke _ (k.retest _ _ (k.startAutoLaunch (k.toldInLane (k.deviceHit _ (k.reportBallIn _ _
      (k.activity (k.takeFree _ _ _ hf.1 h)))))))
  · exact k.phantomEntry _ h

theorem laneFallBack (h : P s) : P (laneFallBack s) := by
  have h' := k.unit (fun u => { u with launchAt := none }) _ (fun _ => rfl) h
  unfold Machine.laneFallBack; dsimp only
  refine k.poke _ (k.toldInLane ?_)
  split
  · exact k.failAttempt _ _ h'
  · exact k.poke _ h'

theorem laneIncrease (h : P s) : P (laneIncrease s) := by
  unfold Machine.laneIncrease
  repeat' split
  · exact k.whole (k.laneFallBack h)
  · next hs => exact k.serveArrival (by simp at hs; exact hs.2) h
  · exact k.whole (k.laneReturn h)

theorem laneDecrease (h : P s) : P (laneDecrease s) := by
  unfold Machine.laneDecrease; split
  · exact k.retest _ _ (k.unit _ _ (fun _ => rfl) h)
  · exact h

theorem leaveLane (h : P s) : P (leaveLane s) := by
  unfold Machine.leaveLane; split
  · exact h
  · next hn => exact k.removeToFree _ _ (by unfold Device.census at hn; omega) h

theorem confirmLaunch (h : P s) : P (confirmLaunch s) := by
  unfold Machine.confirmLaunch; dsimp only
  refine k.poke _ ?_
  have h' := k.leaveLane (k.unit (fun u => { u with launchAt := none }) _ (fun _ => rfl) h)
  repeat' split
  all_goals first
    | exact k.finishHead _ _ (k.toldLaunched _ (k.report _ h'))
    | exact k.testReadiness _ (k.report _ (k.toldLaunched _ (k.report _ h')))
    | exact k.poke _ (k.toldLaunched _ (k.report _ h'))

theorem settle (d : DeviceId) (h : P s) : P (settle d s) := by
  have h' := k.device d (fun v => { v.withSettled v.closed with settleAt := none }) s ⟨rfl, rfl, id, id⟩ h
  unfold Machine.settle; dsimp only
  repeat' split
  all_goals first
    | exact h'
    | exact k.troughSettled _ h'
    | exact k.laneIncrease h'
    | exact k.laneDecrease h'
    | exact k.holdIncrease _ _ h'
    | exact k.holdDecrease _ _ _ h'

theorem routeToDevices (n : SwitchId) (c : Bool) (h : P s) : P (routeToDevices n c s) := by
  refine k.devices _ _ (fun d => ?_) h
  split
  · exact ⟨rfl, rfl, id, id⟩
  · exact ⟨rfl, rfl, id, id⟩

/-! ## Timers and coil power -/

theorem expireHold (d : DeviceId) (h : P s) : P (expireHold d s) :=
  k.placeRequest _ _ _ (k.retag d (modFirst _ _) (modFirst_length _ _) h)

theorem endSearchPulse (d : DeviceId) (h : P s) : P (endSearchPulse d s) := by
  unfold Machine.endSearchPulse; dsimp only
  split
  · exact k.testReadiness _ h
  · exact k.testReadiness _ (k.queue d _ (fun _ => rfl) (fun _ => rfl) (fun _ => rfl) h)

theorem endPulse (d : DeviceId) (x : Option Nat) (h : P s) : P (endPulse d x s) := by
  unfold Machine.endPulse; split
  · exact k.endSearchPulse _ h
  · exact k.arbitrate (k.eject d _ (fun _ => rfl) (fun _ => rfl) rfl rfl h)

theorem endWindow (d : DeviceId) (x : Option Nat) (h : P s) : P (endWindow d x s) := by
  unfold Machine.endWindow
  repeat' split
  · exact k.troughWindowEnd h
  · exact k.eject 1 _ (fun _ => rfl) (fun _ => rfl) rfl rfl h
  · exact k.failAttempt _ _ h
  · exact k.whole (k.succeed _ h)
  · exact k.failAttempt _ _ h

theorem cutPulse (d : DeviceId) (h : P s) : P (cutPulse d s) := by
  unfold Machine.cutPulse; dsimp only
  split
  · have h' := k.eject (s := s) d (fun v => { v with eject := .waitPower }) (fun _ => rfl) (fun _ => rfl) rfl rfl h
    refine k.retest _ _ ?_
    repeat' split
    · exact k.beginReconcile h'
    · exact h'
    · exact k.unexpectedExits _ _ _ h'
  · exact h

theorem powerLost (h : P s) : P (powerLost s) := by
  unfold Machine.powerLost; dsimp only
  refine forEach _ (fun d _ h => k.cutPulse d h) (k.devices _ _ (fun d => ?_) (k.notice _ _ (k.scan _ _ rfl rfl h)))
  unfold loseGrant; split
  · exact ⟨rfl, rfl, Bool.noConfusion, Bool.noConfusion⟩
  · exact ⟨rfl, rfl, id, id⟩

theorem powerReadiness (d : DeviceId) (h : P s) : P (powerReadiness d s) := by
  unfold Machine.powerReadiness; split
  · exact k.readiness _ _ h
  · exact h

theorem powerBack (h : P s) : P (powerBack s) :=
  k.arbitrate (forEach _ (fun d _ h => k.powerReadiness d h) (k.scan _ _ rfl rfl h))

/-! ## Hit resolution -/

theorem modVar (p : PlayerId) (v : Fin 16) (f : Nat → Nat) (h : P s) : P (s.modVar p v f) := k.hit _ _ rfl id h

theorem takeCondition (c : Condition) (h : P s) : P (takeCondition c s) := by
  unfold Machine.takeCondition; split
  · exact k.modVar _ _ _ h
  · exact h

theorem applyAction (a : Action) (own : Option ModeId) (g : StartOrigin) (h : P s) : P (applyAction a own g s).1 := by
  unfold Machine.applyAction
  repeat' split
  · exact h
  · exact k.lightLock _ h
  · exact k.startMode _ _ h
  · exact k.stopFrame _ h
  · exact k.advanceMode _ _ h
  · exact h
  · exact k.advanceMode _ _ h
  · exact k.startSave _ h
  · exact k.addBall h
  · exact h
  · exact k.modCurrent _ (fun _ => rfl) (fun _ b => ⟨b.score, b.bonus, b.bonusMult, b.fieldMult, by simp⟩) h
  · refine k.modCurrent _ (fun _ => rfl) (fun r b => ⟨b.score, b.bonus, ?_, b.fieldMult, b.extraBalls⟩) h
    have := b.bonusMult; simp only; omega
  · exact h
  · exact k.modVar _ _ _ h

omit k in
theorem addBonus_le (a n : Nat) : addBonus a n ≤ bonusMax := by
  unfold addBonus; dsimp only; split
  · exact le_refl _
  · next h => simp only [Bool.or_eq_true, decide_eq_true_eq, not_or, not_lt] at h; exact h.2

theorem applyEntry (src : Points) (m : Bool) (v b : Nat) (a : Action) (fs : Nat × Nat) (own : Option ModeId)
    (g : StartOrigin) (h : P s) : P (applyEntry src m v b a fs own g s).state := by
  unfold Machine.applyEntry; dsimp only
  have hb : ∀ r : Player, r.Bounded → ({ r with bonus := addBonus r.bonus b } : Player).Bounded :=
    fun r q => ⟨q.score, by dsimp only; exact addBonus_le _ _, q.bonusMult, q.fieldMult, q.extraBalls⟩
  exact k.applyAction _ _ _ (k.modCurrent _ (fun _ => rfl) hb (k.poolEffect _ _ (k.credit' _ h)))

theorem visit (o : Nat) (page : Option ModeId) (rest : List (Option ModeId)) {w : Walk} {r : Walk × Bool}
    (hv : visit o page rest w = some r) (h : P w.state) : P r.1.state := by
  unfold Machine.visit at hv
  repeat' split at hv
  all_goals simp only [Option.some.injEq, reduceCtorEq] at hv
  subst hv; exact k.applyEntry _ _ _ _ _ _ _ _ (k.takeCondition _ h)

theorem walk (o : Nat) (l : List (Option ModeId)) : ∀ {w : Walk}, P w.state → P (walk o l w).state := by
  induction l with
  | nil => intro w h; exact h
  | cons page rest ih =>
    intro w h; unfold Machine.walk
    split
    · exact ih h
    · next hv => exact ih (k.visit _ _ _ hv h)
    · next hv => exact k.visit _ _ _ hv h

theorem link (x : Handed) {c : Chain} (h : P c.state) : P (link x c).state := by
  unfold Machine.link; dsimp only
  repeat' split
  · exact h
  · exact k.applyEntry _ _ _ _ _ _ _ _ (k.takeCondition _ h)
  · exact h

theorem chain (n : Nat) : ∀ {c : Chain}, P c.state → P (chain n c).state := by
  induction n with
  | zero => intro c h; exact h
  | succ n ih =>
    intro c h; unfold Machine.chain
    split
    · exact h
    · exact ih (k.link _ h)

theorem fileReport (l : List Report) (r : HitReport) (h : P s) : P (fileReport l r s) := k.out _ _ h

theorem fullResolution (x : Hit) (h : P s) : P (fullResolution x s) :=
  k.fileReport _ _ (k.chain _ (k.walk _ _ (k.out _ _ h)))

theorem resolveHit (h : P s) : P (resolveHit s) := by
  unfold Machine.resolveHit; dsimp only
  split
  · exact h
  · next x t hq =>
    have h' : P (s.modHit fun u => { u with queue := takeRepeat u.queue }) := by
      refine k.hit _ _ rfl (fun hl => ?_) h
      simp only [hq, takeRepeat, List.length_cons] at hl ⊢
      split
      · omega
      · simpa using hl
    repeat' split
    · exact k.report _ h'
    · exact k.fullResolution _ h'
    · exact k.report _ h'

theorem outsideChain (l : List Handed) (h : P s) : P (outsideChain l s) := by
  unfold Machine.outsideChain; dsimp only
  split
  · exact h
  · exact k.fileReport _ _ (k.chain _ (k.out _ _ h))

/-! ## What follows the events of a step -/

theorem searchAfter (b : State) (h : P s) : P (searchAfter b s) := by
  unfold Machine.searchAfter; split
  · exact k.testSearch h
  · exact h

/-- The events of a step keep what their effects, the changes of play and the report queue keep. -/
theorem events (hq : ∀ r s, P s → P (queueReport r s)) {f : State → State} (h : P (f s)) : P (events f s) :=
  forEach _ hq (k.out _ _ (k.settleExpiries (k.searchAfter _ h)))

theorem event (hq : ∀ r s, P s → P (queueReport r s)) {f : State → State} (h : P (f s)) : P (event f s) :=
  k.events hq (k.whole h)

theorem occur (hq : ∀ r s, P s → P (queueReport r s)) (due : Bool) {f : State → State} (hf : ∀ s, P s → P (f s))
    (h : P s) : P (occur due f s) := by
  unfold Machine.occur; split
  · exact k.event hq (hf _ h)
  · exact h

theorem occurEach (hq : ∀ r s, P s → P (queueReport r s)) (due : Bool) {f : State → State} (hf : ∀ s, P s → P (f s))
    (h : P s) : P (occurEach due f s) := by
  unfold Machine.occurEach; split
  · exact k.events hq (hf _ h)
  · exact h

/-! ## Switches -/

theorem modSwitch (n : SwitchId) (f : Switch → Switch) (h : P s) : P (s.modSwitch n f) := k.scan _ _ rfl rfl h

theorem playfieldClosure (n : SwitchId) (h : P s) : P (playfieldClosure n s) := by
  unfold Machine.playfieldClosure; dsimp only
  split
  · exact k.offerClosure _ (k.modSwitch _ _ (k.activity h))
  · exact k.modSwitch _ _ (k.activity h)

theorem route (n : SwitchId) (c : Bool) (h : P s) : P (route n c s) := by
  unfold Machine.route
  repeat' split
  all_goals first
    | exact h
    | exact k.playfieldClosure _ h
    | exact k.modSwitch _ _ h
    | exact k.routeToDevices _ _ h
    | exact k.report _ h
    | exact k.tiltClosure h
    | exact k.slamClosure h

theorem acceptChange (n : SwitchId) (h : P s) : P (acceptChange n s) := by
  unfold Machine.acceptChange; dsimp only
  split
  · exact k.report _ (k.route _ _ (k.modSwitch _ _ h))
  · exact k.route _ _ (k.modSwitch _ _ h)

theorem becomeStuck (n : SwitchId) (h : P s) : P (becomeStuck n s) := k.report _ (k.notice _ _ (k.modSwitch _ _ h))

theorem autoLaunch (h : P s) : P (autoLaunch s) := by
  unfold Machine.autoLaunch; dsimp only
  split
  · exact k.placeRequest _ _ _ (k.unit _ _ (fun _ => rfl) h)
  · exact k.unit _ _ (fun _ => rfl) h

theorem expireMode (f : Frame) (h : P s) : P (expireMode f s) := by
  unfold Machine.expireMode; dsimp only
  exact k.outsideChain _ (k.expireFrame _ h)

theorem takeDecrease (f : Frame) (h : P s) : P (takeDecrease f s) := by
  unfold Machine.takeDecrease; split
  · exact k.expireMode _ h
  · exact k.modFrame _ _ h

end Keeps

end Sys2Proof.Machine
end

