-- ==== Sys2Proof/Laws/PerInstr.lean ====
section
/-! SUPPORT. Statements made of every command of the table, one lemma per constructor of Instr. FrameOf: the frame that a
command row takes is the frame of that row (R182, section 10.4). -/

namespace Sys2Proof.Laws

/-- The row that takes the frame of a well-formed command is that command's. -/
def FrameOf.Statement (i : Instr) : Prop :=
  ∀ k tag p, WellFormed i → hostFrame i = some (k, tag, p) → rowOfFrame k tag p = i

namespace FrameOf

theorem coldReset : Statement .coldReset := fun _ _ _ _ h => nomatch h
theorem resetHold : Statement .resetHold := fun _ _ _ _ h => nomatch h
theorem acceptedChange (sw : SwitchId) : Statement (.acceptedChange sw) := fun _ _ _ _ h => nomatch h
theorem stuckTimerExpiry (sw : SwitchId) : Statement (.stuckTimerExpiry sw) := fun _ _ _ _ h => nomatch h
theorem settleTimerExpiry (d : DeviceId) : Statement (.settleTimerExpiry d) := fun _ _ _ _ h => nomatch h
theorem holdTimerExpiry (d : DeviceId) : Statement (.holdTimerExpiry d) := fun _ _ _ _ h => nomatch h
theorem pulseEnd (d : DeviceId) : Statement (.pulseEnd d) := fun _ _ _ _ h => nomatch h
theorem confirmWindowEnd (d : DeviceId) : Statement (.confirmWindowEnd d) := fun _ _ _ _ h => nomatch h
theorem recoveryEnd (d : DeviceId) : Statement (.recoveryEnd d) := fun _ _ _ _ h => nomatch h
theorem spacingEnd (d : DeviceId) : Statement (.spacingEnd d) := fun _ _ _ _ h => nomatch h
theorem launchConfirmed : Statement .launchConfirmed := fun _ _ _ _ h => nomatch h
theorem autoLaunchDelayEnd : Statement .autoLaunchDelayEnd := fun _ _ _ _ h => nomatch h
theorem coilPowerAbsent : Statement .coilPowerAbsent := fun _ _ _ _ h => nomatch h
theorem coilPowerPresent : Statement .coilPowerPresent := fun _ _ _ _ h => nomatch h
theorem playfieldQuiet : Statement .playfieldQuiet := fun _ _ _ _ h => nomatch h
theorem searchStep : Statement .searchStep := fun _ _ _ _ h => nomatch h
theorem saveExpiry : Statement .saveExpiry := fun _ _ _ _ h => nomatch h
theorem modeExpiry (m : ModeId) : Statement (.modeExpiry m) := fun _ _ _ _ h => nomatch h
theorem hitResolution : Statement .hitResolution := fun _ _ _ _ h => nomatch h
theorem frameReceived : Statement .frameReceived := fun _ _ _ _ h => nomatch h
theorem byteError : Statement .byteError := fun _ _ _ _ h => nomatch h
theorem frameTimeout : Statement .frameTimeout := fun _ _ _ _ h => nomatch h
theorem unknownKind (kind tag : Byte) (payload : List Byte) : Statement (.unknownKind kind tag payload) := by
  intro k t p hw h
  cases h
  have hk : isCommandKind kind = false := by simpa [kindFits] using hw.2
  unfold rowOfFrame
  split <;> first | rfl | exact absurd hk (by decide)
theorem frameSent : Statement .frameSent := fun _ _ _ _ h => nomatch h
theorem setSwitch (tag : Byte) (payload : List Byte) : Statement (.setSwitch tag payload) := by
  intro k t p _ h; cases h; rfl
theorem setFilter (tag : Byte) (payload : List Byte) : Statement (.setFilter tag payload) := by
  intro k t p _ h; cases h; rfl
theorem setDevice (tag : Byte) (payload : List Byte) : Statement (.setDevice tag payload) := by
  intro k t p _ h; cases h; rfl
theorem setGame (tag : Byte) (payload : List Byte) : Statement (.setGame tag payload) := by
  intro k t p _ h; cases h; rfl
theorem setMode (tag : Byte) (payload : List Byte) : Statement (.setMode tag payload) := by
  intro k t p _ h; cases h; rfl
theorem setPool (tag : Byte) (payload : List Byte) : Statement (.setPool tag payload) := by
  intro k t p _ h; cases h; rfl
theorem setThreshold (tag : Byte) (payload : List Byte) : Statement (.setThreshold tag payload) := by
  intro k t p _ h; cases h; rfl
theorem loadAwards (tag : Byte) (payload : List Byte) : Statement (.loadAwards tag payload) := by
  intro k t p _ h; cases h; rfl
theorem run (tag : Byte) (payload : List Byte) : Statement (.run tag payload) := by
  intro k t p _ h; cases h; rfl
theorem restart (tag : Byte) (payload : List Byte) : Statement (.restart tag payload) := by
  intro k t p _ h; cases h; rfl
theorem startGame (tag : Byte) (payload : List Byte) : Statement (.startGame tag payload) := by
  intro k t p _ h; cases h; rfl
theorem addPlayer (tag : Byte) (payload : List Byte) : Statement (.addPlayer tag payload) := by
  intro k t p _ h; cases h; rfl
theorem advanceBall (tag : Byte) (payload : List Byte) : Statement (.advanceBall tag payload) := by
  intro k t p _ h; cases h; rfl
theorem endGame (tag : Byte) (payload : List Byte) : Statement (.endGame tag payload) := by
  intro k t p _ h; cases h; rfl
theorem setPlayfieldMult (tag : Byte) (payload : List Byte) : Statement (.setPlayfieldMult tag payload) := by
  intro k t p _ h; cases h; rfl
theorem startSave (tag : Byte) (payload : List Byte) : Statement (.startSave tag payload) := by
  intro k t p _ h; cases h; rfl
theorem lightLock (tag : Byte) (payload : List Byte) : Statement (.lightLock tag payload) := by
  intro k t p _ h; cases h; rfl
theorem addBall (tag : Byte) (payload : List Byte) : Statement (.addBall tag payload) := by
  intro k t p _ h; cases h; rfl
theorem startMode (tag : Byte) (payload : List Byte) : Statement (.startMode tag payload) := by
  intro k t p _ h; cases h; rfl
theorem stopMode (tag : Byte) (payload : List Byte) : Statement (.stopMode tag payload) := by
  intro k t p _ h; cases h; rfl
theorem advanceMode (tag : Byte) (payload : List Byte) : Statement (.advanceMode tag payload) := by
  intro k t p _ h; cases h; rfl
theorem hit (tag : Byte) (payload : List Byte) : Statement (.hit tag payload) := by
  intro k t p _ h; cases h; rfl
theorem retryDevice (tag : Byte) (payload : List Byte) : Statement (.retryDevice tag payload) := by
  intro k t p _ h; cases h; rfl
theorem launchBall (tag : Byte) (payload : List Byte) : Statement (.launchBall tag payload) := by
  intro k t p _ h; cases h; rfl
theorem identify (tag : Byte) (payload : List Byte) : Statement (.identify tag payload) := by
  intro k t p _ h; cases h; rfl
theorem readPlayer (tag : Byte) (payload : List Byte) : Statement (.readPlayer tag payload) := by
  intro k t p _ h; cases h; rfl
theorem readStack (tag : Byte) (payload : List Byte) : Statement (.readStack tag payload) := by
  intro k t p _ h; cases h; rfl
theorem readBalls (tag : Byte) (payload : List Byte) : Statement (.readBalls tag payload) := by
  intro k t p _ h; cases h; rfl
theorem readSwitches (tag : Byte) (payload : List Byte) : Statement (.readSwitches tag payload) := by
  intro k t p _ h; cases h; rfl
theorem readPools (tag : Byte) (payload : List Byte) : Statement (.readPools tag payload) := by
  intro k t p _ h; cases h; rfl
theorem readVar (tag : Byte) (payload : List Byte) : Statement (.readVar tag payload) := by
  intro k t p _ h; cases h; rfl
theorem writeVar (tag : Byte) (payload : List Byte) : Statement (.writeVar tag payload) := by
  intro k t p _ h; cases h; rfl
theorem swapVar (tag : Byte) (payload : List Byte) : Statement (.swapVar tag payload) := by
  intro k t p _ h; cases h; rfl
theorem readNotices (tag : Byte) (payload : List Byte) : Statement (.readNotices tag payload) := by
  intro k t p _ h; cases h; rfl
theorem clearNotices (tag : Byte) (payload : List Byte) : Statement (.clearNotices tag payload) := by
  intro k t p _ h; cases h; rfl
theorem setNoticeMask (tag : Byte) (payload : List Byte) : Statement (.setNoticeMask tag payload) := by
  intro k t p _ h; cases h; rfl
theorem millisecondTick (raw : BitVec 72) (coilPwr : Bool) : Statement (.millisecondTick raw coilPwr) := fun _ _ _ _ h => nomatch h
theorem byteReceived (b : Byte) : Statement (.byteReceived b) := fun _ _ _ _ h => nomatch h

end FrameOf

end Sys2Proof.Laws
end

