-- ==== Sys2Proof/Laws/Rows.lean ====
section
/-! SUPPORT. How a row of the table runs: the row of a command that is taken, the event around an effect, the filing of its
reports, the reply. -/

namespace Sys2Proof.Machine

section
variable {s : State}

/-! ## Rows -/

theorem row_awake {f : State → State} (h : s.resetHeld = false) : row f s = .next (f s) := by
  simp [row, unlessHeld, h]

theorem row_held {f : State → State} (h : s.resetHeld = true) : row f s = .next s := by
  simp [row, unlessHeld, h]

theorem hostRow_taken {kind tag : Byte} {p : List Byte} (f : Carry) (h : s.Takes kind tag p) :
    hostRow kind tag p f s = queueReply tag (f s.taken).2 (f s.taken).1 := by
  obtain ⟨hf, hp⟩ := h
  simp [hostRow, hf, hp, takeCommand, State.taken]

/-- The row of a command that the part takes. -/
theorem row_taken {kind tag : Byte} {p : List Byte} (f : Carry) (ha : s.resetHeld = false) (h : s.Takes kind tag p) :
    row (hostRow kind tag p f) s = .next (queueReply tag (f s.taken).2 (f s.taken).1) := by
  rw [row_awake ha, hostRow_taken f h]

/-! ## Checks -/

@[simp] theorem checkLength_eq (n : Nat) (p : List Byte) (f : Carry) (h : p.length = n) : checkLength n p f = f := if_pos h
theorem checkLength_ne {n : Nat} {p : List Byte} (f : Carry) (h : p.length ≠ n) :
    checkLength n p f = refuse .badLength := if_neg h
@[simp] theorem inSetup_setup (f : Carry) (h : s.running = false) : inSetup f s = f s := by simp [inSetup, h]
@[simp] theorem inRunning_running (f : Carry) (h : s.running = true) : inRunning f s = f s := by simp [inRunning, h]
theorem inSetup_running (f : Carry) (h : s.running = true) : inSetup f s = (s, .refused .wrongState) := by
  simp [inSetup, h, refuse]
theorem inRunning_setup (f : Carry) (h : s.running = false) : inRunning f s = (s, .refused .wrongState) := by
  simp [inRunning, h, refuse]
@[simp] theorem withFields_some {α : Type} (a : α) (f : α → Carry) : withFields (some a) f = f a := rfl
@[simp] theorem refuseWhen_false {c : Refuse} {t : State → Bool} (f : Carry) (h : t s = false) :
    refuseWhen c t f s = f s := by simp [refuseWhen, h]
theorem refuseWhen_true {c : Refuse} {t : State → Bool} (f : Carry) (h : t s = true) :
    refuseWhen c t f s = (s, .refused c) := by simp [refuseWhen, h, refuse]

/-! ## The state once the command has left the buffer -/

@[simp] theorem taken_running : s.taken.running = s.running := rfl
@[simp] theorem taken_device (d : DeviceId) : s.taken.device d = s.device d := rfl
@[simp] theorem taken_out : s.taken.out = s.out := rfl
@[simp] theorem taken_game : s.taken.game = s.game := rfl
@[simp] theorem taken_mode : s.taken.mode = s.mode := rfl
@[simp] theorem taken_hit : s.taken.hit = s.hit := rfl
@[simp] theorem taken_scan : s.taken.scan = s.scan := rfl
@[simp] theorem taken_score : s.taken.score = s.score := rfl
@[simp] theorem taken_track : s.taken.track = s.track := rfl
@[simp] theorem taken_lock : s.taken.lock = s.lock := rfl
@[simp] theorem taken_dev : s.taken.dev = s.dev := rfl
@[simp] theorem taken_now : s.taken.now = s.now := rfl
@[simp] theorem taken_settings : s.taken.settings = s.settings := rfl
@[simp] theorem taken_timersRun : s.taken.timersRun = s.timersRun := rfl
@[simp] theorem taken_live : s.taken.live = s.live := rfl
@[simp] theorem taken_record (p : PlayerId) : s.taken.record p = s.record p := rfl

theorem taken_marks (h : s.marksHold) : s.taken.marksHold := h

/-! ## Filing -/

theorem flush_none (h : s.out = []) : flush s = s := by
  cases s; simp only at h; subst h; rfl

theorem flush_one {r : Report} (h : s.out = []) : flush (s.report r) = queueReport r s := by
  cases s; simp only at h; subst h; rfl

theorem flush_two {r q : Report} (h : s.out = []) :
    flush ((s.report r).report q) = queueReport q (queueReport r s) := by
  cases s; simp only at h; subst h; rfl

theorem queueReport_eq (r : Report) (s : State) : ∃ rs g n,
    queueReport r s = { s with link := { s.link with reports := rs, gap := g, notices := n } } := by
  unfold queueReport; split
  · exact ⟨_, _, s.link.notices, rfl⟩
  · exact ⟨s.link.reports, _, _, rfl⟩

/-- Filing keeps everything but the report queue, the gap count and the notices. -/
theorem flush_eq (s : State) : ∃ rs g n,
    flush s = { s with out := [], link := { s.link with reports := rs, gap := g, notices := n } } := by
  have h : ∀ (l : List Report) (t : State), ∃ rs g n, forEach l queueReport t =
      { t with link := { t.link with reports := rs, gap := g, notices := n } } := by
    intro l
    induction l with
    | nil => intro t; exact ⟨t.link.reports, t.link.gap, t.link.notices, rfl⟩
    | cons r l ih =>
      intro t
      obtain ⟨a, b, c, h⟩ := queueReport_eq r t
      obtain ⟨a', b', c', h'⟩ := ih { t with link := { t.link with reports := a, gap := b, notices := c } }
      exact ⟨a', b', c', by rw [forEach, h, h']⟩
  exact h s.out { s with out := [] }

/-! ## The event around an effect -/

theorem settleExpiries_eq (h : s.marksHold) : settleExpiries s = s := by
  unfold settleExpiries; split
  · rfl
  · next hr =>
    have hm := h (by simpa using hr)
    have : (s.mode.stack.map fun f => { f with expiring := false }) = s.mode.stack := by
      conv_rhs => rw [← List.map_id s.mode.stack]
      refine List.map_congr_left fun f hf => ?_
      have := hm f hf
      cases f; simp_all
    cases s; simp only [State.modMode] at *; rw [this]

theorem settleExpiries_marks (s : State) : (settleExpiries s).marksHold := by
  unfold settleExpiries; split
  · next h => intro hr; rw [h] at hr; exact absurd hr (by simp)
  · intro _ f hf
    simp only [State.modMode, List.mem_map] at hf
    obtain ⟨g, -, rfl⟩ := hf; rfl

/-- Where no attempt ends and no decrease is owed by a paused frame, the events of a step have the reports filed, and nothing
else follows them. -/
theorem events_still {f : State → State}
    (ha : ∀ d, (s.device d).attempting = true → ((f s).device d).attempting = true) (hm : (f s).marksHold) :
    events f s = flush (f s) := by
  have h : someLeft s (f s) = false := by
    simp only [someLeft, List.any_eq_false, List.mem_finRange, forall_const, Bool.and_eq_true, Bool.not_eq_true', not_and]
    intro d hd; rw [ha d hd]; simp
  unfold events searchAfter
  rw [h]
  simp only [Bool.false_eq_true, if_false]
  rw [settleExpiries_eq hm]

/-- An event that tells no live count, enters no ball in play and leaves no decrease owed by a paused frame is its effect. -/
theorem whole_still {f : State → State} (hl : (f s).running = true → (f s).live = s.live)
    (hg : (f s).running = true → (f s).game.state = .inPlay → s.game.state = .inPlay) (hm : (f s).marksHold) :
    whole f s = f s := by
  have h : tellAfter s (f s) = f s := by
    unfold tellAfter
    split
    · next hr => rw [hl hr]; simp only [ne_eq, not_true_eq_false, if_false]; rw [if_neg]; rintro ⟨a, b⟩; exact b (hg hr a)
    · rfl
  rw [whole, h, settleExpiries_eq hm]

/-- What an event taken whole can do after its effect: nothing in SETUP; else the live count is told where it has changed,
the multiball flag is tested at an entry to IN_PLAY; and the decreases owed by paused frames are given up. -/
theorem whole_cases (f : State → State) (s : State) :
    ((f s).running = false ∧ whole f s = settleExpiries (f s)) ∨
    ((f s).running = true ∧ (f s).live ≠ s.live ∧ whole f s = settleExpiries (tellLive (f s).live (f s))) ∨
    ((f s).running = true ∧ (f s).live = s.live ∧ (f s).game.state = .inPlay ∧ s.game.state ≠ .inPlay ∧
      whole f s = settleExpiries (testMultiball (f s).live (f s))) ∨
    ((f s).running = true ∧ (f s).live = s.live ∧ ((f s).game.state = .inPlay → s.game.state = .inPlay) ∧
      whole f s = settleExpiries (f s)) := by
  by_cases hr : (f s).running = true
  · by_cases hl : (f s).live = s.live
    · by_cases hg : (f s).game.state = .inPlay ∧ s.game.state ≠ .inPlay
      · exact .inr (.inr (.inl ⟨hr, hl, hg.1, hg.2, by simp [whole, tellAfter, hr, hl, hg]⟩))
      · refine .inr (.inr (.inr ⟨hr, hl, fun h => by_contra fun hn => hg ⟨h, hn⟩, ?_⟩))
        simp only [whole, tellAfter, hr, hl, if_true, ne_eq, not_true_eq_false, if_false]
        rw [if_neg hg]
    · exact .inr (.inl ⟨hr, hl, by simp [whole, tellAfter, hr, hl]⟩)
  · exact .inl ⟨by simpa using hr, by simp [whole, tellAfter, hr]⟩

/-- An event whose effect tells no live count, enters no ball in play, ends no attempt and leaves no decrease owed by a
paused frame is its effect with the reports filed. -/
theorem event_still {f : State → State} (hl : (f s).running = true → (f s).live = s.live)
    (hg : (f s).running = true → (f s).game.state = .inPlay → s.game.state = .inPlay)
    (ha : ∀ d, (s.device d).attempting = true → ((f s).device d).attempting = true) (hm : (f s).marksHold) :
    event f s = flush (f s) := by
  have h := whole_still hl hg hm
  rw [event, events_still (by rw [h]; exact ha) (by rw [h]; exact hm), h]

/-- The same in SETUP, where no live count is told. -/
theorem event_setup {f : State → State} (hr : (f s).running = false)
    (ha : ∀ d, (s.device d).attempting = true → ((f s).device d).attempting = true) (hm : (f s).marksHold) :
    event f s = flush (f s) :=
  event_still (fun h => by rw [hr] at h; exact absurd h (by simp)) (fun h => by rw [hr] at h; exact absurd h (by simp)) ha hm

end

end Sys2Proof.Machine
end

