-- ==== Sys2Proof/Tests/Slice0.lean ====
section
/-! SUPPORT. Tests: the well-formedness checks, worked figures of the manual, one step of each family, and for every claim
with hypotheses a concrete state and operands that meet them all. Expected results are the manual's own figures or hand
calculation from its rules. -/

namespace Sys2Proof.Tests

open Sys2Proof Sys2Proof.Machine

/-! ## Well-formedness: what each check refuses -/

theorem test_wellFormed_payload : ¬WellFormed (.run 1 (List.replicate 241 0)) := by
  simp only [WellFormed, payloadFits, hostFrame, List.length_replicate]; decide
theorem test_wellFormed_unknown_payload : ¬WellFormed (.unknownKind 0x90 1 (List.replicate 241 0)) := by
  simp only [WellFormed, payloadFits, hostFrame, List.length_replicate]; decide
theorem test_wellFormed_kind : ¬WellFormed (.unknownKind 0x18 1 []) := by decide
theorem test_wellFormed_accepts : WellFormed (.unknownKind 0x1A 1 []) ∧ WellFormed (.run 1 (List.replicate 240 0)) := by
  simp only [WellFormed, payloadFits, hostFrame, List.length_replicate]; decide

/-! ## Worked figures of the manual -/

/-- Worked figures of chapter 9, multiplier and multiply: 750,250 × 12, 750,250 × 99 and the largest product of R164. -/
theorem test_multiplier_figures : decMul 750250 12 = 9003000 ∧ decMul 750250 99 = 74274750 ∧
    decMul 99999999 99 = 9899999901 ∧ clampMult 729 = (99, true) := by
  refine ⟨?_, ?_, ?_, ?_⟩ <;> rfl

/-- Worked figures of chapter 9, credit and saturation. -/
theorem test_credit_figures : creditScore 12345678900 9003000 = (12354681900, false) ∧
    creditScore 99999995000000 9003000 = (99999999999999, true) := by
  refine ⟨?_, ?_⟩ <;> rfl

/-- Worked figures of chapter 9, pool 2. -/
theorem test_pool_figures : (⟨5000000, 25000000, .shared 0⟩ : Pool).grown 5000000 10000000 = 15000000 ∧
    (⟨5000000, 25000000, .shared 0⟩ : Pool).grown 25000000 10000000 = 25000000 := by
  refine ⟨?_, ?_⟩ <;> rfl

/-- Worked figures of chapter 9, bonus: 1,234,500 × 12. -/
theorem test_bonus_figure : decMul 1234500 12 = 14814000 := by decide

/-- The three shift register values of the frame's bytes, by hand from the polynomial. -/
theorem crcByte_steps : crcByte 0 0 = 0 ∧ crcByte 0 0x30 = 0x90 ∧ crcByte 0x90 5 = 0xE2 := by
  simp [crcByte, crcBit, BitVec.msb_eq_decide]
theorem crc8_identify : crc8 [0, 0x30, 5] = 0xE2 := by
  obtain ⟨h, h', h''⟩ := crcByte_steps
  simp only [crc8, List.foldl, h, h', h'']

/-- Section 10.2, checking a frame: IDENTIFY with tag 5 has the check E2H. -/
theorem test_identify_frame : encodeFrame 0x30 5 [] = [0xA9, 0x00, 0x30, 0x05, 0xE2] := by
  show syncByte :: ([0, 0x30, 5] ++ [crc8 [0, 0x30, 5]]) = _
  rw [crc8_identify]; rfl

/-- Section 10.9: the award entry FIXED, multiplied, value 750,250, bonus 10 in packed BCD. -/
theorem test_award_bytes : (Award.award .fixed true false 750250 10 .none .none).bytes =
    [0x03, 0x00, 0x00, 0x75, 0x02, 0x50, 0x00, 0x10, 0x00, 0x00, 0x00, 0x00] := by decide

/-! ## States of the tests -/

/-- A state at rest with an empty stack. -/
theorem atRest {s : State} (h : s.resetHeld = false) (o : s.out = []) (m : s.mode.stack = []) : s.AtRest :=
  ⟨h, o, fun _ f hf => by rw [m] at hf; cases hf⟩

/-- A state at rest with frames that are not marked. -/
theorem atRestWith {s : State} (h : s.resetHeld = false) (o : s.out = []) (m : s.mode.stack.all (!·.expiring) = true) :
    s.AtRest :=
  ⟨h, o, fun _ f hf => by simpa using List.all_eq_true.mp m f hf⟩

/-- A state at rest whose mode timers run. -/
theorem atRestRunning {s : State} (h : s.resetHeld = false) (o : s.out = []) (m : s.timersRun = true) : s.AtRest :=
  ⟨h, o, fun h => by rw [m] at h; cases h⟩

/-- A frame stands alone in the command buffer. -/
def holding (k : Byte) (p : List Byte) (s : State) : State := s.modLink fun l => { l with commands := [⟨k, 1, p⟩] }

theorem takes {s : State} {k tag : Byte} {p : List Byte} (h : s.link.commands.head? = some ⟨k, tag, p⟩)
    (r : s.link.replies = []) : s.Takes k tag p := ⟨h, by rw [r]; decide⟩

/-- SETUP. -/
def setup : State := State.reset

/-- A trough with one position switch, a shooter lane, and a lockable hold device 2. -/
def trough : Device := { Device.cold with
  record := { DeviceRecord.cold with kind := .trough, capacity := 1, switches := [64] }, copies := [false] }
def lane : Device := { Device.cold with
  record := { DeviceRecord.cold with kind := .launch, capacity := 1, switches := [65], launchCoil := true }
  copies := [false] }
def lock : Device := { Device.cold with
  record := { DeviceRecord.cold with
    kind := .hold, capacity := 2, switches := [66, 67], hold := 500, lockable := true, goal := 3 }
  copies := [true, false] }

/-- The devices with one more setting of each. -/
def parts (f g h : Device → Device) : DeviceUnit :=
  { DeviceUnit.cold with devices := (((Vector.replicate 8 Device.cold).set 0 (f trough)).set 1 (g lane)).set 2 (h lock) }

def idle (v : Device) : Device := { v with eject := .idle }

def spare : Held := ⟨.spare, 0, none⟩

/-- RUNNING in a game state with player 1 of one at ball 1, and every machine in service IDLE. -/
def game (g : GameState) : State :=
  { State.reset with
    dev := parts idle idle idle
    game := { Game.cold with state := g, players := 1, current := some 0, ball := 1 }
    link := { LinkUnit.cold with state := .running, reports := [] } }

/-- The game with other devices. -/
def gameWith (g : GameState) (f h k : Device → Device) : State := { game g with dev := parts f h k }

/-- A mode that is defined, and its frame. -/
def mode5 : Descriptor :=
  { Descriptor.cold with defined := true, priority := 3, own := 2, depth := 1, counter := .count, goal := 4, pageLength := 8 }
def frame5 : Frame := ⟨5, 1, 1, some 500, false, 4, 0, 0⟩

/-- The game with mode 5 defined, and with frames on the stack. -/
def gameMode (g : GameState) (d : Descriptor) (l : List Frame) : State :=
  { game g with mode := { ModeUnit.cold with descriptors := (Vector.replicate 32 Descriptor.cold).set 5 d, stack := l } }

/-! ## Witnesses: the queue and the reset -/

theorem witness_StepRunsTheFrontCommand :
    ({ setup with pending := [.frameSent] } : State).pending = .frameSent :: [] ∧ setup.pending = [] := ⟨rfl, rfl⟩

theorem witness_ResetHoldsThePart : ({ setup with resetHeld := true } : State).resetHeld = true ∧
    Instr.frameSent ≠ .coldReset ∧ Instr.frameSent ≠ .resetHold := by decide

/-! ## Witnesses: the setup commands -/

def source71 : Source := ⟨.playfield, true, 3, 127, true, 60⟩

theorem witness_SetSwitchStores :
    (let s := holding 0x10 (switchPayload (switchSource 71) source71) setup
    s.AtRest ∧ s.running = false ∧ source71.Valid ∧ s.Takes 0x10 1 (switchPayload (switchSource 71) source71)) ∧
    (let s := holding 0x10 [byte 95, 9, 9, 9, byte 127, flagByte true, 9] setup
    s.AtRest ∧ s.running = false ∧ 72 ≤ (95 : SourceId).val ∧ 127 ≤ 127 ∧
      s.Takes 0x10 1 [byte 95, 9, 9, 9, byte 127, flagByte true, 9]) :=
  ⟨⟨atRest rfl rfl rfl, rfl, ⟨by decide, by decide, by decide⟩, takes rfl rfl⟩,
    ⟨atRest rfl rfl rfl, rfl, by decide, by decide, takes rfl rfl⟩⟩

def settings8 : Settings := ⟨8, 10, 30, 5, 60, 896, 128⟩

theorem witness_SetupTablesTakeTheirValues :
    (let s := holding 0x11 (filterPayload 3 ⟨255, 1⟩) setup
    s.AtRest ∧ s.running = false ∧ (⟨255, 1⟩ : FilterClass).Valid ∧ s.Takes 0x11 1 (filterPayload 3 ⟨255, 1⟩)) ∧
    (let s := holding 0x13 (gamePayload settings8) setup
    s.AtRest ∧ s.running = false ∧ settings8.Valid ∧ s.Takes 0x13 1 (gamePayload settings8)) ∧
    (let s := holding 0x16 (thresholdPayload 2 99999999999999) (game .noGame)
    s.AtRest ∧ (s.running = true → s.game.state = .noGame) ∧ 99999999999999 ≤ 99999999999999 ∧
      s.Takes 0x16 1 (thresholdPayload 2 99999999999999)) :=
  ⟨⟨atRest rfl rfl rfl, rfl, ⟨by decide, by decide⟩, takes rfl rfl⟩,
    ⟨atRest rfl rfl rfl, rfl,
      ⟨by decide, by decide, by decide, by decide, by decide, by decide, by decide, by decide⟩, takes rfl rfl⟩,
    ⟨atRest rfl rfl rfl, fun _ => rfl, le_rfl, takes rfl rfl⟩⟩

def record2 : DeviceRecord := ⟨.hold, 6, [66, 67, 68, 69, 70, 71], 250, 3000, 2000, 5000, true, 5, true, false, false⟩

theorem witness_SetDeviceReplacesTheRecord :
    (let s := holding 0x12 (devicePayload 2 record2) setup
    s.AtRest ∧ s.running = false ∧ record2.Valid 2 ∧ s.Takes 0x12 1 (devicePayload 2 record2)) ∧
    (let s := holding 0x12 (devicePayload 7 .cold) setup
    s.AtRest ∧ s.running = false ∧ DeviceRecord.cold.Valid 7 ∧ s.Takes 0x12 1 (devicePayload 7 .cold)) :=
  ⟨⟨atRest rfl rfl rfl, rfl,
      ⟨by decide, by decide, by decide, by decide, by decide, by decide, by decide, by decide, by decide, by decide,
        by decide⟩, takes rfl rfl⟩,
    ⟨atRest rfl rfl rfl, rfl,
      ⟨by decide, by decide, by decide, by decide, by decide, by decide, by decide, by decide, by decide, by decide,
        by decide⟩, takes rfl rfl⟩⟩

def descriptor31 : Descriptor :=
  ⟨true, 15, 7, 1023, 1, 9, 3, 6000, .restart, .count, 9999, 16, true, true, some 1023, some 0, none⟩

theorem descriptor31_valid : descriptor31.Valid :=
  ⟨by decide, by decide, by decide, by decide, by decide, by decide, by decide, by decide, by decide, by decide, by decide,
    by decide⟩

theorem witness_SetModeReplacesTheDescriptor :
    (let s := holding 0x14 (modePayload 31 descriptor31) setup
    s.AtRest ∧ descriptor31.Valid ∧ s.Takes 0x14 1 (modePayload 31 descriptor31)) ∧
    (let s := holding 0x14 (modePayload 5 .cold) (gameMode .serving mode5 [frame5])
    s.AtRest ∧ Descriptor.cold.Valid ∧ s.Takes 0x14 1 (modePayload 5 .cold) ∧
      s.running = true ∧ s.modeInUse 5 = true) :=
  ⟨⟨atRest rfl rfl rfl, descriptor31_valid, takes rfl rfl⟩,
    ⟨atRestWith rfl rfl rfl, ⟨by decide, by decide, by decide, by decide, by decide, by decide, by decide, by decide,
      by decide, by decide, by decide, by decide⟩, takes rfl rfl, rfl, rfl⟩⟩

theorem witness_SetPoolSetsTheValues :
    (let s := holding 0x15 (poolPayload 7 99999999 99999999 true) setup
    s.AtRest ∧ 99999999 ≤ 99999999 ∧ 99999999 ≤ 99999999 ∧ s.Takes 0x15 1 (poolPayload 7 99999999 99999999 true)) ∧
    (let s := holding 0x15 (poolPayload 0 0 5 false) (game .inPlay)
    s.AtRest ∧ 0 ≤ 5 ∧ 5 ≤ 99999999 ∧ s.Takes 0x15 1 (poolPayload 0 0 5 false) ∧ s.running = true ∧
      (s.pool 0).value.isPlayer = false) ∧
    (let s := holding 0x15 (poolPayload 0 0 5 true) (game .inPlay)
    s.AtRest ∧ 0 ≤ 5 ∧ 5 ≤ 99999999 ∧ s.Takes 0x15 1 (poolPayload 0 0 5 true) ∧ s.running = true ∧
      (s.pool 0).value.isPlayer ≠ true) :=
  ⟨⟨atRest rfl rfl rfl, le_rfl, le_rfl, takes rfl rfl⟩,
    ⟨atRest rfl rfl rfl, by decide, by decide, takes rfl rfl, rfl, rfl⟩,
    ⟨atRest rfl rfl rfl, by decide, by decide, takes rfl rfl, rfl, by decide⟩⟩

def entries8 : List Award := .empty :: List.replicate 7 (.award (.poolAdd 7) true true 99999999 9999 (.varTake 15)
  (.advance none 15))

theorem witness_LoadAwardsWritesTheEntries :
    (let s := holding 0x17 (loadPayload 1016 entries8) (game .inPlay)
    s.AtRest ∧ s.awardsCanonical ∧ 1 ≤ entries8.length ∧ entries8.length ≤ 8 ∧ 1016 + entries8.length ≤ 1024 ∧
      (∀ e ∈ entries8, e.Valid) ∧ s.Takes 0x17 1 (loadPayload 1016 entries8)) :=
  ⟨atRest rfl rfl rfl, rfl, by decide, by decide, by decide, by
    intro e he
    simp only [entries8, List.mem_cons, List.mem_replicate] at he
    rcases he with rfl | ⟨-, rfl⟩
    · trivial
    · exact ⟨by decide, by decide, show 1 ≤ 15 ∧ 15 ≤ 15 by decide⟩, takes rfl rfl⟩

/-- The part set up with one ball in the trough. -/
def ready : State :=
  { State.reset with
    dev := parts (fun v => { v with settled := 1 }) id id
    scan := { Scanner.cold with
      sources := updAll Scanner.cold.sources fun x y =>
        if 64 ≤ x.val ∧ x.val ≤ 67 then { y with role := .device } else y } }

theorem witness_RunBuildsTheCensus : let s := holding 0x18 [] ready
    s.AtRest ∧ s.running = false ∧ s.game.state = .noGame ∧ runFailure s = none ∧
      (∀ d, (s.device d).eject = .off) ∧ s.Takes 0x18 1 [] :=
  ⟨atRest rfl rfl rfl, rfl, rfl, by decide, by decide, takes rfl rfl⟩

theorem witness_RestartKeepsTheConfiguration : let s := holding 0x19 [] (game .inPlay)
    s.AtRest ∧ s.Takes 0x19 1 [] := ⟨atRest rfl rfl rfl, takes rfl rfl⟩

/-! ## Witnesses: the game commands -/

/-- The game with a SPARE in the trough. -/
def stocked (g : GameState) : State := gameWith g (fun v => { idle v with held := [spare] }) idle idle

theorem witness_StartGameStartsBallOne : let s := holding 0x20 [byte 4] (stocked .noGame)
    s.AtRest ∧ s.running = true ∧ s.game.state = .noGame ∧ 1 ≤ 4 ∧ 4 ≤ 4 ∧ 1 ≤ (s.device 0).tagged .spare ∧
      s.Takes 0x20 1 [byte 4] ∧ s.track.search = .idle ∧ ∀ d, (s.device d).queue.length < 8 :=
  ⟨atRest rfl rfl rfl, rfl, rfl, by decide, by decide, by decide, takes rfl rfl, rfl, by decide⟩

theorem witness_AddPlayerAddsOne :
    (let s := holding 0x21 [] (game .ballOver)
    s.AtRest ∧ s.running = true ∧ s.game.state ≠ .noGame ∧ s.game.ball = 1 ∧ s.game.players < 4 ∧ s.Takes 0x21 1 []) ∧
    (let s := holding 0x21 [] (game .noGame)
    s.AtRest ∧ s.running = true ∧ (s.game.state = .noGame ∨ 2 ≤ s.game.ball ∨ 4 ≤ s.game.players) ∧
      s.Takes 0x21 1 []) ∧
    (let s := holding 0x21 [] setup
    s.AtRest ∧ s.running = false ∧ s.Takes 0x21 1 []) :=
  ⟨⟨atRest rfl rfl rfl, rfl, by decide, rfl, by decide, takes rfl rfl⟩,
    ⟨atRest rfl rfl rfl, rfl, .inl rfl, takes rfl rfl⟩, ⟨atRest rfl rfl rfl, rfl, takes rfl rfl⟩⟩

/-- BALL_OVER of a ball, with extra balls pending. -/
def ballDone (ball extra : Nat) : State := (game .ballOver).modGame fun g =>
  { g with ball := ball, records := g.records.set 0 { Player.cold with extraBalls := extra } }

theorem witness_AdvanceBallServesTheNextBall :
    (let s := holding 0x22 [] (ballDone 1 9)
    s.AtRest ∧ s.running = true ∧ s.game.state = .ballOver ∧ s.game.current = some 0 ∧ s.Takes 0x22 1 [] ∧
      1 ≤ (s.record 0).extraBalls) ∧
    (let s := holding 0x22 [] (ballDone 2 0)
    s.AtRest ∧ s.running = true ∧ s.game.state = .ballOver ∧ s.game.current = some 0 ∧ s.Takes 0x22 1 [] ∧
      ¬1 ≤ (s.record 0).extraBalls ∧ (nextTurn s.game.players 0 s.game.ball).2 ≤ s.settings.ballsPerGame) ∧
    (let s := holding 0x22 [] (ballDone 3 0)
    s.AtRest ∧ s.running = true ∧ s.game.state = .ballOver ∧ s.game.current = some 0 ∧ s.Takes 0x22 1 [] ∧
      ¬1 ≤ (s.record 0).extraBalls ∧ ¬(nextTurn s.game.players 0 s.game.ball).2 ≤ s.settings.ballsPerGame) :=
  ⟨⟨atRest rfl rfl rfl, rfl, rfl, rfl, takes rfl rfl, by decide⟩,
    ⟨atRest rfl rfl rfl, rfl, rfl, rfl, takes rfl rfl, by decide, by decide⟩,
    ⟨atRest rfl rfl rfl, rfl, rfl, rfl, takes rfl rfl, by decide, by decide⟩⟩

/-- BALL_OVER of a game of two with frames on the carried list of a player, of which the first stands as high as the last. -/
def ballDoneCarrying (q : PlayerId) (extra : Nat) : State :=
  { ballDone 1 extra with
    game := { (ballDone 1 extra).game with players := 2 }
    mode := { ModeUnit.cold with carried := ModeUnit.cold.carried.set q [⟨5, some 500, 3, 1, 0⟩, ⟨9, none, 7, 0, 2⟩] } }

/-- The frames of the player who shoots again, and those of the next player, wait to be restored. -/
theorem witness_AdvanceBallServesTheNextBall_restores :
    (let s := holding 0x22 [] (ballDoneCarrying 0 1)
    s.AtRest ∧ s.running = true ∧ s.game.state = .ballOver ∧ s.game.current = some 0 ∧ s.Takes 0x22 1 [] ∧
      s.mode.stack = [] ∧ 1 ≤ (s.record 0).extraBalls ∧ s.mode.carried[(0 : PlayerId)].length = 2 ∧
      (s.mode.carried[(0 : PlayerId)]).Pairwise
        (fun c b => (s.descriptor b.mode).priority ≤ (s.descriptor c.mode).priority) ∧ s.track.search = .idle) ∧
    (let s := holding 0x22 [] (ballDoneCarrying 1 0)
    s.AtRest ∧ s.running = true ∧ s.game.state = .ballOver ∧ s.game.current = some 0 ∧ s.Takes 0x22 1 [] ∧
      s.mode.stack = [] ∧ (s.record 0).extraBalls = 0 ∧ 1 = (nextTurn s.game.players 0 s.game.ball).1 ∧
      (nextTurn s.game.players 0 s.game.ball).2 ≤ s.settings.ballsPerGame ∧
      s.mode.carried[(1 : PlayerId)].length = 2 ∧ (s.mode.carried[(1 : PlayerId)]).Pairwise
        (fun c b => (s.descriptor b.mode).priority ≤ (s.descriptor c.mode).priority)) :=
  ⟨⟨atRest rfl rfl rfl, rfl, rfl, rfl, takes rfl rfl, rfl, by decide, by decide, by decide, rfl⟩,
    ⟨atRest rfl rfl rfl, rfl, rfl, rfl, takes rfl rfl, rfl, by decide, by decide, by decide, by decide, by decide⟩⟩

theorem witness_EndGameAbandonsTheGame : let s := holding 0x23 [] (game .inPlay)
    s.AtRest ∧ s.running = true ∧ s.game.state ≠ .noGame ∧ s.Takes 0x23 1 [] ∧ s.track.search = .idle ∧
      (∀ d, (s.device d).queue.length < 8) ∧ (s.device 0).attempting = false :=
  ⟨atRest rfl rfl rfl, rfl, by decide, takes rfl rfl, rfl, by decide, rfl⟩

theorem witness_SetPlayfieldMultClamps : let s := holding 0x24 [255] (game .ballOver)
    s.AtRest ∧ s.running = true ∧ s.game.state ≠ .noGame ∧ s.game.current = some 0 ∧ s.Takes 0x24 1 [255] :=
  ⟨atRest rfl rfl rfl, rfl, by decide, rfl, takes rfl rfl⟩

theorem witness_StartSaveNeverShortens : let s := holding 0x25 [30] (game .inPlay)
    s.AtRest ∧ s.running = true ∧ s.Takes 0x25 1 [30] := ⟨atRest rfl rfl rfl, rfl, takes rfl rfl⟩

theorem witness_LightLockLightsOne : let s := holding 0x26 [byte 2] (game .ballOver)
    s.AtRest ∧ s.running = true ∧ s.game.state ≠ .noGame ∧ s.game.current = some 0 ∧ 2 ≤ (2 : DeviceId).val ∧
      (s.device 2).record.kind = .hold ∧ (s.device 2).record.lockable = true ∧ s.Takes 0x26 1 [byte 2] :=
  ⟨atRest rfl rfl rfl, rfl, by decide, rfl, by decide, rfl, rfl, takes rfl rfl⟩

theorem witness_AddBallServesAnUnclaimedSpare :
    (let s := holding 0x27 [] ((stocked .inPlay).modTrack fun t => { t with free := 1 })
    s.AtRest ∧ s.running = true ∧ s.playable = true ∧ s.game.tilted = false ∧ 1 ≤ s.unclaimed ∧
      (s.device 0).eject ≠ .off ∧ (s.device 0).queue.length < 8 ∧ (∀ r ∈ (s.device 0).queue, r.count < 8) ∧
      s.Takes 0x27 1 [] ∧ s.game.state = .inPlay ∧ 1 ≤ s.live) ∧
    (let s := holding 0x27 [] (game .ready)
    s.AtRest ∧ s.running = true ∧ s.playable = true ∧ s.game.tilted = false ∧ s.unclaimed = 0 ∧ s.Takes 0x27 1 []) ∧
    (let s := holding 0x27 [] (game .ballOver)
    s.AtRest ∧ s.running = true ∧ s.game.state ≠ .noGame ∧ (s.playable = false ∨ s.game.tilted = true) ∧
      s.Takes 0x27 1 []) :=
  ⟨⟨atRest rfl rfl rfl, rfl, rfl, rfl, by decide, by decide, by decide, by decide, takes rfl rfl, rfl, by decide⟩,
    ⟨atRest rfl rfl rfl, rfl, rfl, rfl, by decide, takes rfl rfl⟩,
    ⟨atRest rfl rfl rfl, rfl, by decide, .inl rfl, takes rfl rfl⟩⟩

/-- Eight frames of the modes 10 to 17, which have priority 1. -/
def eight : List Frame := (List.range 8).map fun i => { frame5 with mode := Fin.ofNat 32 (10 + i) }

theorem witness_StartModeHasItsOutcomes :
    (let s := holding 0x28 [byte 5] (gameMode .ready mode5 (eight.take 7))
    s.AtRest ∧ s.running = true ∧ s.game.state ≠ .noGame ∧ s.game.state ≠ .ballOver ∧ s.game.tilted = false ∧
      (s.descriptor 5).defined = true ∧ s.frame 5 = none ∧ s.groupHolder 5 = none ∧ s.mode.stack.length < 8 ∧
      s.Takes 0x28 1 [byte 5]) ∧
    (let s := holding 0x28 [byte 5] (gameMode .ballOver mode5 [])
    s.AtRest ∧ s.running = true ∧ (s.game.state = .noGame ∨ s.game.state = .ballOver) ∧ s.Takes 0x28 1 [byte 5]) ∧
    (let s := holding 0x28 [byte 5] (gameMode .ready { mode5 with priority := 1 } eight)
    s.AtRest ∧ s.running = true ∧ s.game.tilted = false ∧ (s.descriptor 5).defined = true ∧ s.frame 5 = none ∧
      s.groupHolder 5 = none ∧ 8 ≤ s.mode.stack.length ∧
      (∀ low ∈ s.mode.stack.getLast?, (s.descriptor 5).priority ≤ (s.descriptor low.mode).priority) ∧
      s.Takes 0x28 1 [byte 5]) ∧
    (let s := holding 0x28 [byte 5] (gameMode .serving mode5 [frame5])
    s.AtRest ∧ s.running = true ∧ s.game.state ≠ .noGame ∧ s.game.state ≠ .ballOver ∧ s.game.tilted = false ∧
      (s.descriptor 5).defined = true ∧ s.frame 5 = some frame5 ∧ s.Takes 0x28 1 [byte 5]) ∧
    (let s := holding 0x28 [byte 5] (gameMode .ready mode5 eight)
    let low : Frame := { frame5 with mode := 17 }
    s.AtRest ∧ s.running = true ∧ s.game.state ≠ .noGame ∧ s.game.state ≠ .ballOver ∧ s.game.tilted = false ∧
      (s.descriptor 5).defined = true ∧ s.frame 5 = none ∧ s.groupHolder 5 = none ∧
      s.mode.stack = eight.take 7 ++ [low] ∧ (eight.take 7).length = 7 ∧ (∀ f ∈ eight.take 7, f.mode ≠ low.mode) ∧
      (s.descriptor low.mode).priority < (s.descriptor 5).priority ∧ s.Takes 0x28 1 [byte 5]) :=
  ⟨⟨atRestWith rfl rfl rfl, rfl, by decide, by decide, rfl, rfl, rfl, rfl, by decide, takes rfl rfl⟩,
    ⟨atRest rfl rfl rfl, rfl, .inr rfl, takes rfl rfl⟩,
    ⟨atRestWith rfl rfl rfl, rfl, rfl, rfl, rfl, rfl, by decide, by decide, takes rfl rfl⟩,
    ⟨atRestWith rfl rfl rfl, rfl, by decide, by decide, rfl, rfl, rfl, takes rfl rfl⟩,
    ⟨atRestWith rfl rfl rfl, rfl, by decide, by decide, rfl, rfl, rfl, rfl, rfl, rfl, by decide, by decide,
      takes rfl rfl⟩⟩

/-- A carried frame of mode 5 on a player's list, in a game of two. -/
def carrying (p : PlayerId) : State :=
  { game .ballOver with
    game := { (game .ballOver).game with players := 2 }
    mode := { ModeUnit.cold with carried := (Vector.replicate 4 []).set p [⟨5, none, 3, 0, 0⟩] } }

theorem witness_StopModeEndsTheFrame :
    (let s := holding 0x29 [byte 5, byte 1] (gameMode .serving mode5 [frame5])
    s.AtRest ∧ s.running = true ∧ s.game.state ≠ .noGame ∧ s.game.current = some 0 ∧ 1 = (0 : PlayerId).val + 1 ∧
      1 ≤ s.game.players ∧ s.frame 5 = some frame5 ∧ s.Takes 0x29 1 [byte 5, byte 1]) ∧
    (let s := holding 0x29 [byte 5, byte 0] (carrying 0)
    s.AtRest ∧ s.running = true ∧ s.game.state ≠ .noGame ∧ s.game.current = some 0 ∧ s.frame 5 = none ∧
      0 ≤ s.game.players ∧ (s.mode.carried[(0 : PlayerId)]).find? (·.mode = 5) ≠ none ∧
      s.Takes 0x29 1 [byte 5, byte 0]) ∧
    (let s := holding 0x29 [byte 5, byte 2] (carrying 1)
    s.AtRest ∧ s.running = true ∧ s.game.state ≠ .noGame ∧ s.game.current ≠ some 1 ∧ 2 = (1 : PlayerId).val + 1 ∧
      2 ≤ s.game.players ∧ s.Takes 0x29 1 [byte 5, byte 2]) ∧
    (let s := holding 0x29 [byte 5, byte 2] (carrying 0)
    s.AtRest ∧ s.game.current ≠ some 1 ∧ 2 ≤ s.game.players ∧
      (s.mode.carried[(1 : PlayerId)]).find? (·.mode = 5) = none ∧ s.Takes 0x29 1 [byte 5, byte 2]) :=
  ⟨⟨atRestWith rfl rfl rfl, rfl, by decide, rfl, rfl, by decide, rfl, takes rfl rfl⟩,
    ⟨atRest rfl rfl rfl, rfl, by decide, rfl, rfl, by decide, by decide, takes rfl rfl⟩,
    ⟨atRest rfl rfl rfl, rfl, by decide, by decide, rfl, by decide, takes rfl rfl⟩,
    ⟨atRest rfl rfl rfl, by decide, by decide, by decide, takes rfl rfl⟩⟩

/-- Mode 5 as a FREE mode near the end of its counter, with the counter at 9,999. -/
def free5 : Descriptor := { mode5 with counter := .free, goal := 0 }

theorem playerCold_bounded : Player.cold.Bounded := ⟨by decide, by decide, by decide, by decide, by decide⟩

theorem witness_AdvanceModeMovesTheCounter :
    (let s := holding 0x2A [byte 5, byte 3] (gameMode .serving mode5 [frame5])
    s.AtRest ∧ s.running = true ∧ s.frame 5 = some frame5 ∧ 1 ≤ 3 ∧ 3 ≤ 255 ∧
      ((s.descriptor 5).counter = .count ∧ 3 < frame5.counter ∧ 1 = frame5.counter - 3) ∧
      s.Takes 0x2A 1 [byte 5, byte 3]) ∧
    (let s := holding 0x2A [byte 5, byte 4] (gameMode .serving mode5 [frame5])
    s.AtRest ∧ s.running = true ∧ s.frame 5 = some frame5 ∧ 1 ≤ 4 ∧ 4 ≤ 255 ∧ (s.descriptor 5).counter = .count ∧
      frame5.counter ≤ 4 ∧ (s.descriptor 5).completion = none ∧ s.Takes 0x2A 1 [byte 5, byte 4]) ∧
    (let f : Frame := { frame5 with counter := 9999 }
    let s := holding 0x2A [byte 5, byte 255] (gameMode .serving free5 [f])
    s.AtRest ∧ s.running = true ∧ s.frame 5 = some f ∧ 255 ≤ 255 ∧ (s.descriptor 5).counter = .free ∧ f.counter ≤ 9999 ∧
      9999 < f.counter + 255 ∧ (s.descriptor 5).lap = none ∧ s.Takes 0x2A 1 [byte 5, byte 255]) ∧
    (let s := holding 0x2A [byte 5, byte 1] (game .inPlay)
    s.AtRest ∧ s.running = true ∧ s.frame 5 = none ∧ 1 ≤ 1 ∧ 1 ≤ 255 ∧ s.Takes 0x2A 1 [byte 5, byte 1]) :=
  ⟨⟨atRestWith rfl rfl rfl, rfl, rfl, by decide, by decide, ⟨rfl, by decide, rfl⟩, takes rfl rfl⟩,
    ⟨atRestWith rfl rfl rfl, rfl, rfl, by decide, by decide, rfl, by decide, rfl, takes rfl rfl⟩,
    ⟨atRestWith rfl rfl rfl, rfl, rfl, by decide, rfl, by decide, by decide, rfl, takes rfl rfl⟩,
    ⟨atRest rfl rfl rfl, rfl, rfl, by decide, by decide, takes rfl rfl⟩⟩

/-- The award of fixed points at an address. -/
def fixedAward (multiplied : Bool) : Award := .award .fixed multiplied false 750250 10 .none .none

theorem witness_AdvanceModeMovesTheCounter_chain :
    let s := holding 0x2A [byte 5, byte 255] { gameMode .serving { mode5 with completion := some 1023 } [frame5] with
      hit := { HitUnit.cold with awards := [(1023, fixedAward true)] } }
    s.AtRest ∧ s.running = true ∧ s.frame 5 = some frame5 ∧ 1 ≤ 255 ∧ 255 ≤ 255 ∧ (s.descriptor 5).counter = .count ∧
      frame5.counter ≤ 255 ∧ (s.descriptor 5).completion = some 1023 ∧ s.game.current = some 0 ∧ (s.record 0).Bounded ∧
      750250 ≤ 99999999 ∧ 10 ≤ 9999 ∧ awardAt s.hit.awards 1023 = .award .fixed true false 750250 10 .none .none ∧
      s.Takes 0x2A 1 [byte 5, byte 255] ∧ s.link.reports.length < 63 :=
  ⟨atRestWith rfl rfl rfl, rfl, rfl, by decide, by decide, rfl, by decide, rfl, rfl, playerCold_bounded, by decide,
    by decide, rfl, takes rfl rfl, by decide⟩

theorem witness_HitAppendsAnEntry :
    (let s := holding 0x2B [byte 95] (game .inPlay)
    s.AtRest ∧ s.running = true ∧ s.playable = true ∧ 80 ≤ (95 : SourceId).val ∧ s.Takes 0x2B 1 [byte 95]) ∧
    (let s := holding 0x2B [byte 79] (game .ready)
    s.AtRest ∧ s.running = true ∧ s.playable = true ∧ ((byte 79).toNat < 80 ∨ 95 < (byte 79).toNat) ∧
      s.Takes 0x2B 1 [byte 79]) ∧
    (let s := holding 0x2B [byte 80] (game .serving)
    s.AtRest ∧ (s.running = false ∨ s.playable = false) ∧ s.Takes 0x2B 1 [byte 80]) :=
  ⟨⟨atRest rfl rfl rfl, rfl, rfl, by decide, takes rfl rfl⟩,
    ⟨atRest rfl rfl rfl, rfl, rfl, by decide, takes rfl rfl⟩, ⟨atRest rfl rfl rfl, .inr rfl, takes rfl rfl⟩⟩

theorem witness_RetryDeviceLeavesJammed :
    let s := holding 0x2C [byte 2] (gameWith .noGame idle idle fun v =>
      { v with eject := .jammed, attempts := 4, held := [⟨.releasing, 0, none⟩], queue := [⟨.release, 1⟩] })
    s.AtRest ∧ s.running = true ∧ (s.device 2).eject = .jammed ∧ s.Takes 0x2C 1 [byte 2] ∧ s.ready 2 = true :=
  ⟨atRest rfl rfl rfl, rfl, rfl, takes rfl rfl, rfl⟩

/-- The game with a ball in the lane. -/
def laned (g : GameState) : State := gameWith g idle (fun v => { idle v with held := [spare] }) idle

theorem witness_LaunchBallQueuesALaunch :
    (let s := holding 0x2D [] (laned .ready)
    s.AtRest ∧ s.running = true ∧ s.playable = true ∧ (s.device 1).record.launchCoil = true ∧
      (s.device 1).eject = .idle ∧ (s.device 1).queue = [] ∧ s.laneReady = true ∧ s.Takes 0x2D 1 []) ∧
    (let s := holding 0x2D [] (laned .noGame)
    s.AtRest ∧ s.running = true ∧ s.playable = false ∧ (s.device 1).record.launchCoil = true ∧ s.Takes 0x2D 1 []) ∧
    (let s := holding 0x2D [] (gameWith .ready idle id idle |>.modDevice 1 fun _ => Device.cold)
    s.AtRest ∧ s.running = true ∧ (s.device 1).record.launchCoil = false ∧ s.Takes 0x2D 1 []) :=
  ⟨⟨atRest rfl rfl rfl, rfl, rfl, rfl, rfl, rfl, rfl, takes rfl rfl⟩,
    ⟨atRest rfl rfl rfl, rfl, rfl, rfl, takes rfl rfl⟩, ⟨atRest rfl rfl rfl, rfl, rfl, takes rfl rfl⟩⟩

/-! ## Witnesses: the query commands -/

theorem witness_ReadCommandsChangeNothing :
    (holding 0x30 [] setup).AtRest ∧ (holding 0x30 [] setup).Takes 0x30 1 [] ∧
    (holding 0x31 [byte 4] setup).AtRest ∧
      (holding 0x31 [byte 4] setup).Takes 0x31 1 [byte ((3 : PlayerId).val + 1)] ∧
    (holding 0x32 [] setup).Takes 0x32 1 [] ∧ (holding 0x33 [] setup).Takes 0x33 1 [] ∧
    (holding 0x34 [] setup).Takes 0x34 1 [] ∧ (holding 0x35 [] setup).Takes 0x35 1 [] ∧
    (holding 0x36 [byte 4, byte 15] setup).Takes 0x36 1 [byte ((3 : PlayerId).val + 1), byte (15 : Fin 16).val] ∧
    (holding 0x39 [] setup).Takes 0x39 1 [] :=
  ⟨atRest rfl rfl rfl, takes rfl rfl, atRest rfl rfl rfl, takes rfl rfl, takes rfl rfl, takes rfl rfl, takes rfl rfl,
    takes rfl rfl, takes rfl rfl, takes rfl rfl⟩

theorem witness_VariablesAreWrittenAndSwapped :
    (let p := byte ((3 : PlayerId).val + 1) :: byte (15 : Fin 16).val :: le16 65535
    let s := holding 0x37 p (game .noGame)
    s.AtRest ∧ s.running = true ∧ 65535 ≤ 65535 ∧ s.Takes 0x37 1 p) ∧
    (let p := byte ((0 : PlayerId).val + 1) :: byte (0 : Fin 16).val :: (le16 0 ++ le16 65535)
    let s := holding 0x38 p (game .noGame)
    s.AtRest ∧ s.running = true ∧ 0 ≤ 65535 ∧ 65535 ≤ 65535 ∧ s.Takes 0x38 1 p) :=
  ⟨⟨atRest rfl rfl rfl, rfl, le_rfl, takes rfl rfl⟩, ⟨atRest rfl rfl rfl, rfl, by decide, le_rfl, takes rfl rfl⟩⟩

theorem witness_NoticesAreClearedAndMasked :
    (holding 0x3A [0xFF] setup).AtRest ∧ (holding 0x3A [0xFF] setup).Takes 0x3A 1 [0xFF] ∧
    (holding 0x3B [0x00] setup).AtRest ∧ (holding 0x3B [0x00] setup).Takes 0x3B 1 [0x00] :=
  ⟨atRest rfl rfl rfl, takes rfl rfl, atRest rfl rfl rfl, takes rfl rfl⟩

theorem witness_KindsAndLengthsAreChecked :
    (let s := holding 0x1A [] setup
    s.AtRest ∧ isCommandKind 0x1A = false ∧ s.Takes 0x1A 1 []) ∧
    (let s := holding 0x18 [0] setup
    s.AtRest ∧ WellFormed (.run 1 [0]) ∧ hostFrame (.run 1 [0]) = some (0x18, 1, [0]) ∧ isCommandKind 0x18 = true ∧
      s.Takes 0x18 1 [0] ∧ catalogueLength 0x18 = some 0 ∧ [(0 : Byte)].length ≠ 0) ∧
    (let s := holding 0x17 [0, 0] setup
    s.AtRest ∧ WellFormed (.loadAwards 1 [0, 0]) ∧ hostFrame (.loadAwards 1 [0, 0]) = some (0x17, 1, [0, 0]) ∧
      isCommandKind 0x17 = true ∧ s.Takes 0x17 1 [0, 0] ∧ catalogueLength 0x17 = none ∧ [(0 : Byte), 0].length < 3) :=
  ⟨⟨atRest rfl rfl rfl, rfl, takes rfl rfl⟩,
    ⟨atRest rfl rfl rfl, by decide, rfl, rfl, takes rfl rfl, rfl, by decide⟩,
    ⟨atRest rfl rfl rfl, by decide, rfl, rfl, takes rfl rfl, rfl, by decide⟩⟩

/-! ## Witnesses: switches and time -/

/-- The game with switch 0 in a state, and source 0 in a role. -/
def switched (g : GameState) (r : Role) (w : Switch) : State := (game g).modScan fun u =>
  { u with
    switches := u.switches.set 0 w
    sources := u.sources.set 0 { Source.cold with role := r, stuckTime := 60 } }

/-- A switch whose change has qualified. -/
def qualifiedSwitch (closed : Bool) : Switch := ⟨closed, 8, true, false, none⟩

theorem witness_AcceptedChangesAreRouted :
    (let s := switched .inPlay .inactive (qualifiedSwitch false)
    s.AtRest ∧ (s.switch 0).qualified = true ∧ (s.source (switchSource 0)).role = .inactive) ∧
    (let s := switched .inPlay .slam (qualifiedSwitch true)
    s.AtRest ∧ (s.switch 0).qualified = true ∧ (!(s.switch 0).filtered) = false ∧
      (s.source (switchSource 0)).role ∈ [.start, .tilt, .slam]) ∧
    (let s := switched .noGame .start (qualifiedSwitch false)
    s.AtRest ∧ (s.switch 0).qualified = true ∧ (s.source (switchSource 0)).role = .start ∧
      (!(s.switch 0).filtered) = true) ∧
    (let s := switched .inPlay .playfield (qualifiedSwitch true)
    s.AtRest ∧ (s.switch 0).qualified = true ∧ (s.source (switchSource 0)).role = .playfield ∧
      (!(s.switch 0).filtered) = false) ∧
    (let s := switched .inPlay .playfield (qualifiedSwitch false)
    s.AtRest ∧ (s.switch 0).qualified = true ∧ (s.source (switchSource 0)).role = .playfield ∧
      (!(s.switch 0).filtered) = true ∧ s.track.search = .idle) ∧
    (let s := switched .inPlay .device (qualifiedSwitch false)
    s.AtRest ∧ (s.switch 0).qualified = true ∧ (s.source (switchSource 0)).role = .device) ∧
    (setup.switch 0).qualified = false :=
  ⟨⟨atRest rfl rfl rfl, rfl, rfl⟩, ⟨atRest rfl rfl rfl, rfl, rfl, by decide⟩, ⟨atRest rfl rfl rfl, rfl, rfl, rfl⟩,
    ⟨atRest rfl rfl rfl, rfl, rfl, rfl⟩, ⟨atRest rfl rfl rfl, rfl, rfl, rfl, rfl⟩, ⟨atRest rfl rfl rfl, rfl, rfl⟩, rfl⟩

/-- A tilt closure of player 1 who has some warnings, 1,000 ms after the last. -/
def tilting (warnings : Nat) : State := { (switched .inPlay .tilt (qualifiedSwitch false)).modGame fun g =>
  { g with records := g.records.set 0 { Player.cold with warnings := warnings }, lastWarning := some 4000 } with now := 5000 }

theorem witness_TiltClosuresCount :
    (let s := tilting 1
    s.AtRest ∧ (s.switch 0).qualified = true ∧ (s.switch 0).filtered = false ∧
      (s.source (switchSource 0)).role = .tilt ∧ (s.source (switchSource 0)).reportFlag = false ∧
      s.game.current = some 0 ∧ s.game.state ∈ [.serving, .ready, .inPlay] ∧ s.game.tilted = false ∧
      (∀ t ∈ s.game.lastWarning, t + 1000 ≤ s.now) ∧ (s.record 0).warnings + 1 ≠ s.settings.tiltLimit) ∧
    (let s := tilting 2
    s.AtRest ∧ (s.switch 0).qualified = true ∧ (s.switch 0).filtered = false ∧
      (s.source (switchSource 0)).role = .tilt ∧ (s.source (switchSource 0)).reportFlag = false ∧
      s.game.current = some 0 ∧ s.game.state ∈ [.serving, .ready, .inPlay] ∧ s.game.tilted = false ∧
      (∀ t ∈ s.game.lastWarning, t + 1000 ≤ s.now) ∧ (s.record 0).warnings + 1 = s.settings.tiltLimit) ∧
    (let s := { tilting 2 with now := 4999 }
    s.AtRest ∧ (s.switch 0).qualified = true ∧ (s.switch 0).filtered = false ∧
      (s.source (switchSource 0)).role = .tilt ∧ (s.source (switchSource 0)).reportFlag = false ∧
      s.game.current = some 0 ∧ ¬(∀ t ∈ s.game.lastWarning, t + 1000 ≤ s.now)) ∧
    (let s := switched .ballOver .slam (qualifiedSwitch false)
    s.AtRest ∧ (s.switch 0).qualified = true ∧ (s.switch 0).filtered = false ∧
      (s.source (switchSource 0)).role = .slam ∧ s.game.state ≠ .noGame) :=
  ⟨⟨atRest rfl rfl rfl, rfl, rfl, rfl, rfl, rfl, by decide, rfl, by decide, by decide⟩,
    ⟨atRest rfl rfl rfl, rfl, rfl, rfl, rfl, rfl, by decide, rfl, by decide, by decide⟩,
    ⟨atRest rfl rfl rfl, rfl, rfl, rfl, rfl, rfl, by decide⟩, ⟨atRest rfl rfl rfl, rfl, rfl, rfl, by decide⟩⟩

/-- Mode 5 with a millisecond owed and `r` left, with a free ball in play. -/
def expiring5 (r : Nat) (d : Descriptor) : State :=
  (gameMode .inPlay d [{ frame5 with remaining := some r, expiring := true }]).modTrack fun t => { t with free := 1 }

theorem witness_TimersExpireWithAReport :
    (let s := switched .noGame .playfield ⟨true, 0, false, false, some 0⟩
    s.AtRest ∧ (s.switch 0).stuckAt = some 0 ∧ 0 ≤ s.now) ∧
    (let s := (game .inPlay).modGame fun g => { g with save := .counting }
    s.AtRest ∧ s.game.save = .counting ∧ s.game.saveLeft = 0) ∧
    (let s := expiring5 1 mode5
    s.AtRest ∧ s.frame 5 = some { frame5 with remaining := some 1, expiring := true } ∧ 1 ≤ 1 ∧
      s.game.state = .inPlay ∧ 1 ≤ s.track.free ∧ s.game.tilted = false ∧ (s.descriptor 5).expiry = none) ∧
    (let s := expiring5 2 mode5
    s.AtRest ∧ s.frame 5 = some { frame5 with remaining := some 2, expiring := true } ∧ 2 ≤ 2 ∧
      s.game.state = .inPlay ∧ 1 ≤ s.track.free ∧ s.game.tilted = false) ∧
    (let s := { expiring5 1 { mode5 with expiry := some 1023 } with
      hit := { HitUnit.cold with awards := [(1023, fixedAward true)] } }
    s.AtRest ∧ s.frame 5 = some { frame5 with remaining := some 1, expiring := true } ∧ 1 ≤ 1 ∧
      s.game.state = .inPlay ∧ 1 ≤ s.track.free ∧ s.game.tilted = false ∧ (s.descriptor 5).expiry = some 1023 ∧
      s.game.current = some 0 ∧ (s.record 0).Bounded ∧ 750250 ≤ 99999999 ∧ 10 ≤ 9999 ∧
      awardAt s.hit.awards 1023 = .award .fixed true false 750250 10 .none .none) :=
  ⟨⟨atRest rfl rfl rfl, rfl, by decide⟩, ⟨atRest rfl rfl rfl, rfl, rfl⟩,
    ⟨atRestRunning rfl rfl rfl, rfl, by decide, rfl, by decide, rfl, rfl⟩,
    ⟨atRestRunning rfl rfl rfl, rfl, by decide, rfl, by decide, rfl⟩,
    ⟨atRestRunning rfl rfl rfl, rfl, by decide, rfl, by decide, rfl, rfl, rfl, playerCold_bounded, by decide, by decide,
      rfl⟩⟩

set_option maxRecDepth 20000 in
theorem witness_TickCountsAMillisecond :
    (setup.resetHeld = false ∧ takeOverdue setup = setup ∧ setup.scan.sampled = false) ∧
    (let s := { setup with scan := { setup.scan with sampled := true } }
    s.resetHeld = false ∧ takeOverdue s = s ∧ s.scan.sampled = true) := by
  refine ⟨⟨rfl, ?_, rfl⟩, rfl, ?_, rfl⟩ <;> rfl

/-! ## Witnesses: devices -/

/-- A device whose settle timer has expired with one closed switch more than its settled count. -/
def settles (v : Device) : Device := { idle v with settleAt := some 0, copies := [true] }

/-- A game with a lock of player 1 lit at device 2, whose settle timer has expired with one ball more: `held` in device 2,
spares in the trough, locks made, and the goal. -/
def locking (spares : Nat) (held : List Held) (capacity made goal : Nat) : State :=
  ((gameWith .inPlay (fun v => { idle v with held := List.replicate spares spare }) idle fun v =>
    { settles v with held := held, record := { v.record with capacity := capacity, goal := goal } }).modTrack fun t =>
      { t with free := 1 }).modLockAt 0 2 fun _ => ⟨1, made⟩

/-- What a lock capture of player 1 at device 2 needs. -/
def LockOccasion (s : State) : Prop :=
  s.AtRest ∧ s.running = true ∧ 2 ≤ (2 : DeviceId).val ∧ (s.device 2).settleAt = some 0 ∧ 0 ≤ s.now ∧
    (s.device 2).eject = .idle ∧ s.track.search = .idle ∧ (s.device 2).closed = (s.device 2).settled + 1 ∧
    1 ≤ s.track.free ∧ s.game.state = .inPlay ∧ s.game.tilted = false ∧ s.game.current = some 0 ∧
    (s.device 2).record.kind = .hold ∧ (s.device 2).record.lockable = true ∧ 1 ≤ (s.lockAt 0 2).lit ∧
    ∀ c, (s.device c).queue.length < 8

theorem lockOccasion (spares : Nat) (held : List Held) (capacity made goal : Nat) :
    LockOccasion (locking spares held capacity made goal) :=
  ⟨atRest rfl rfl rfl, rfl, by decide, rfl, Nat.le_refl 0, rfl, rfl, rfl, Nat.le_refl 1, rfl, rfl, rfl, rfl, rfl, Nat.le_refl 1,
    fun c => by fin_cases c <;> exact Nat.zero_lt_succ 7⟩

theorem witness_SettledBallsAreCaptured :
    (let s := { setup with dev := parts id id fun v => { v with settleAt := some 0 } }
    s.AtRest ∧ (s.device 2).settleAt = some 0 ∧ 0 ≤ s.now ∧ (s.device 2).eject = .off) ∧
    (let s := (gameWith .inPlay idle idle settles).modTrack fun t => { t with free := 1 }
    s.AtRest ∧ s.running = true ∧ 2 ≤ (2 : DeviceId).val ∧ (s.device 2).settleAt = some 0 ∧ 0 ≤ s.now ∧
      (s.device 2).eject = .idle ∧ s.track.search = .idle ∧ (s.device 2).closed = (s.device 2).settled + 1 ∧
      1 ≤ s.track.free ∧ ∀ p, s.decide 2 ≠ .lock p) :=
  ⟨⟨atRest rfl rfl rfl, rfl, by decide, rfl⟩,
    ⟨atRest rfl rfl rfl, rfl, by decide, rfl, by decide, rfl, rfl, rfl, by decide, by decide⟩⟩

/-- The replacement by a spare, the make-room of another player's lock and of the player's own oldest, the lock without a
spare, and the lock multiball with one virtual lock. -/
theorem witness_SettledBallsAreCaptured_locks :
    (let s := locking 1 [] 2 0 3
    LockOccasion s ∧ (s.lockAt 0 2).made + 1 < 3 ∧ 1 ≤ s.unclaimed ∧ (s.device 0).eject ≠ .off ∧
      ([] ++ [⟨.locked 0, s.clock, none⟩] : List Held).length ≠ (s.device 2).record.capacity) ∧
    (let s := locking 1 [⟨.locked 1, 7, none⟩] 2 0 3
    LockOccasion s ∧ (s.lockAt 0 2).made + 1 < 3 ∧ 1 ≤ s.unclaimed ∧
      (s.device 2).held ++ [⟨.locked 0, s.clock, none⟩] = [] ++ ⟨.locked 1, 7, none⟩ :: [⟨.locked 0, s.clock, none⟩] ∧
      (Tag.locked 1 ≠ .locked 0)) ∧
    (let s := locking 1 [⟨.locked 0, 7, none⟩] 2 1 3
    LockOccasion s ∧ (s.lockAt 0 2).made + 1 < 3 ∧ 1 ≤ s.unclaimed ∧
      ∀ h ∈ (s.device 2).held ++ [⟨.locked 0, s.clock, none⟩], h.tag = .locked 0) ∧
    (let s := locking 0 [] 2 0 3
    LockOccasion s ∧ (s.lockAt 0 2).made + 1 < 3 ∧ s.unclaimed = 0) ∧
    (let s := locking 1 [⟨.locked 0, 7, none⟩] 2 2 3
    LockOccasion s ∧ (s.lockAt 0 2).made + 1 = (s.device 2).record.goal ∧
      min ((s.lockAt 0 2).made + 1 - (s.physical 0 2 + 1)) s.unclaimed = 1) :=
  ⟨⟨lockOccasion .., by decide, by decide, by decide, by decide⟩, ⟨lockOccasion .., by decide, by decide, rfl, by decide⟩,
    ⟨lockOccasion .., by decide, by decide, by decide⟩, ⟨lockOccasion .., by decide, by decide⟩,
    ⟨lockOccasion .., by decide, by decide⟩⟩

/-- A drain of one free ball. -/
def draining (save : Save) (free : Nat) : State :=
  ((gameWith .inPlay settles idle idle).modTrack fun t => { t with free := free }).modGame fun g => { g with save := save }

theorem witness_DrainsEndTheBallOrAreSaved :
    (let s := draining .counting 1
    s.AtRest ∧ s.running = true ∧ (s.device 0).settleAt = some 0 ∧ 0 ≤ s.now ∧ (s.device 0).eject = .idle ∧
      s.dev.reconciling = false ∧ (s.device 0).closed = (s.device 0).settled + 1 ∧ 1 ≤ s.track.free ∧
      s.game.state = .inPlay ∧ s.game.save = .counting ∧ (s.device 0).queue.length < 8 ∧
      ∀ r ∈ (s.device 0).queue, r.count < 8) ∧
    ((draining .off 2).game.save ≠ .counting ∧ 2 ≤ (draining .off 2).live) ∧
    ((draining .off 1).AtRest ∧ (draining .off 1).game.save ≠ .counting ∧ (draining .off 1).live = 1 ∧
      (draining .off 1).game.current = some 0 ∧ ((draining .off 1).record 0).Bounded) ∧
    (let s := ((draining .off 2).modDevice 0 fun v => { v with copies := [true, true] }).modGame fun g =>
      { g with multiball := true }
    s.AtRest ∧ s.running = true ∧ (s.device 0).settleAt = some 0 ∧ 0 ≤ s.now ∧ (s.device 0).eject = .idle ∧
      s.dev.reconciling = false ∧ (s.device 0).closed = (s.device 0).settled + 2 ∧ 2 ≤ s.track.free ∧
      s.game.state = .inPlay ∧ s.game.save ≠ .counting ∧ s.game.multiball = true ∧ s.live = 2 ∧
      s.track.search = .idle ∧ (s.source (deviceSource 0)).reportFlag = false) :=
  ⟨⟨atRest rfl rfl rfl, rfl, rfl, by decide, rfl, rfl, rfl, by decide, rfl, rfl, by decide, by decide⟩,
    ⟨by decide, by decide⟩, ⟨atRest rfl rfl rfl, by decide, by decide, rfl, playerCold_bounded⟩,
    ⟨atRest rfl rfl rfl, rfl, rfl, by decide, rfl, rfl, rfl, by decide, rfl, by decide, rfl, by decide, rfl, rfl⟩⟩

/-- The last drain of a ball with one frame that is carried and one that is not. -/
theorem witness_DrainsEndTheBallOrAreSaved_carries :
    let s := { draining .off 1 with mode := (gameMode .inPlay { mode5 with carry := true }
      [frame5, { frame5 with mode := 9 }]).mode }
    s.AtRest ∧ s.game.save ≠ .counting ∧ s.live = 1 ∧ s.game.current = some 0 ∧ (1 : PlayerId) ≠ 0 ∧
      (s.mode.stack.filter fun f => (s.descriptor f.mode).carry) = [frame5] :=
  ⟨atRestWith rfl rfl rfl, by decide, by decide, rfl, by decide, by decide⟩

theorem witness_ServesReachTheLane :
    let s := gameWith .serving
      (fun v => { v with eject := .confirming (some 9) none, queue := [⟨.serve, 1⟩], held := [spare], attempts := 1 })
      settles idle
    s.AtRest ∧ s.running = true ∧ (s.device 1).settleAt = some 0 ∧ 0 ≤ s.now ∧ (s.device 1).eject = .idle ∧
      (s.device 1).settled = 0 ∧ (s.device 1).closed = 1 ∧ s.dev.launchAt = none ∧ (s.device 0).attempting = true ∧
      s.dev.late ≠ .lostOnly ∧ (s.device 0).queue = ⟨.serve, 0 + 1⟩ :: [] ∧ (s.device 0).held = [] ++ spare :: [] ∧
      spare.tag = .spare ∧ (∀ x ∈ ([] : List Held), x.tag ≠ .spare) ∧ (s.device 0).settleAt = none ∧
      (s.device 0).settled + 1 = (s.device 0).held.length :=
  ⟨atRest rfl rfl rfl, rfl, rfl, by decide, rfl, rfl, rfl, rfl, rfl, by decide, rfl, rfl, rfl, by decide, rfl, rfl⟩

/-- A parked ball whose hold timer is due. -/
def parked : Held := ⟨.parked, 0, some 0⟩

/-- A trough with a SERVE head and one SPARE, in a state of its machine. -/
def troughIn (e : Eject) (v : Device) : Device :=
  { v with eject := e, queue := [⟨.serve, 1⟩], held := [spare], attempts := 1, settled := 1 }

/-- The end of the trough's confirm window, lost and failed. -/
theorem witness_ServesReachTheLane_window :
    (let s := gameWith .serving (fun v => { troughIn (.confirming (some 0) none) v with settled := 0 }) idle idle
    s.AtRest ∧ s.running = true ∧ (s.device 0).eject = .confirming (some 0) none ∧ 0 ≤ s.now ∧ s.dev.late = .none ∧
      (s.device 0).queue = ⟨.serve, 0 + 1⟩ :: [] ∧ (s.device 0).held = [] ++ spare :: [] ∧ spare.tag = .spare ∧
      (s.device 0).settled + 1 = (s.device 0).held.length ∧ s.track.search = .idle) ∧
    (let s := gameWith .serving (troughIn (.confirming (some 0) none)) idle idle
    s.AtRest ∧ s.running = true ∧ (s.device 0).eject = .confirming (some 0) none ∧ 0 ≤ s.now ∧ s.dev.late = .none ∧
      (s.device 0).queue = ⟨.serve, 1⟩ :: [] ∧ 1 ≤ 1 ∧ (s.device 0).settled = (s.device 0).held.length) :=
  ⟨⟨atRest rfl rfl rfl, rfl, rfl, by decide, rfl, rfl, rfl, rfl, rfl, rfl⟩,
    ⟨atRest rfl rfl rfl, rfl, rfl, by decide, rfl, rfl, by decide, rfl⟩⟩

/-- A late exit of the trough, and its reconciliation by an entry and by an exit. -/
theorem witness_ServesReachTheLane_late :
    (let s := gameWith .serving (fun v => { troughIn .jammed v with settleAt := some 0 }) idle idle
    s.AtRest ∧ s.running = true ∧ (s.device 0).settleAt = some 0 ∧ 0 ≤ s.now ∧ s.dev.reconciling = false ∧
      (s.device 0).queue = ⟨.serve, 1⟩ :: [] ∧ 1 ≤ (s.device 0).attempts ∧ (s.device 0).attempting = false ∧
      (s.device 0).eject ≠ .off ∧ (s.device 0).closed < (s.device 0).settled ∧ (s.device 0).eject = .jammed) ∧
    (let s := ((gameWith .inPlay settles idle idle).modTrack fun t => { t with free := 1 }).modDev fun u =>
      { u with reconciling := true }
    s.AtRest ∧ s.running = true ∧ (s.device 0).settleAt = some 0 ∧ 0 ≤ s.now ∧ s.dev.reconciling = true ∧
      (s.device 0).attempting = false ∧ (s.device 0).eject ≠ .off ∧ (∀ h ∈ (s.device 0).held, h.tag = .spare) ∧
      (s.device 0).closed = (s.device 0).held.length + 1 ∧ 1 ≤ s.track.free) ∧
    (let s := (gameWith .inPlay (fun v => { settles v with copies := [], held := [spare] }) idle idle).modDev fun u =>
      { u with reconciling := true }
    s.AtRest ∧ s.dev.reconciling = true ∧ (s.device 0).closed + 1 = (s.device 0).held.length ∧
      ∀ h ∈ (s.device 0).held, h.tag = .spare) :=
  ⟨⟨atRest rfl rfl rfl, rfl, rfl, by decide, rfl, rfl, by decide, rfl, by decide, by decide, rfl⟩,
    ⟨atRest rfl rfl rfl, rfl, rfl, by decide, rfl, rfl, by decide, by decide, rfl, by decide⟩,
    ⟨atRest rfl rfl rfl, rfl, rfl, by decide⟩⟩

/-- A phantom and a found entry at device 2, and an unexpected exit there with and without an excess. -/
theorem witness_ServesReachTheLane_strays :
    (let s := gameWith .inPlay idle idle settles
    s.AtRest ∧ s.running = true ∧ (2 : DeviceId) ≠ 1 ∧ (s.device 2).settleAt = some 0 ∧ 0 ≤ s.now ∧
      (s.device 2).eject = .idle ∧ s.track.search = .idle ∧ (s.device 2).closed = (s.device 2).settled + 1 ∧
      s.track.free = 0 ∧ s.track.missing = 0) ∧
    (let s := (gameWith .inPlay settles idle idle).modTrack fun t => { t with missing := 1 }
    s.AtRest ∧ s.running = true ∧ (s.device 0).settleAt = some 0 ∧ (s.device 0).eject = .idle ∧
      s.dev.reconciling = false ∧ s.track.search = .idle ∧ (s.device 0).closed = (s.device 0).settled + 1 ∧
      s.track.free = 0 ∧ s.track.missing ≠ 0) ∧
    (let s := gameWith .inPlay idle idle fun v => { settles v with settled := 2, held := [parked, ⟨.locked 0, 0, none⟩] }
    s.AtRest ∧ s.running = true ∧ (s.device 2).settleAt = some 0 ∧ (s.device 2).eject = .idle ∧
      (s.device 2).closed + 1 = (s.device 2).settled ∧
      (s.device 2).held = [] ++ parked :: [⟨.locked 0, 0, none⟩] ∧
      (∀ x ∈ [(⟨.locked 0, 0, none⟩ : Held)], exitRank parked.tag ≤ exitRank x.tag) ∧
      ¬(s.device 2).held.length < (s.device 2).settled) ∧
    (let s := gameWith .inPlay idle idle fun v => { settles v with settled := 2, held := [parked] }
    s.AtRest ∧ (s.device 2).closed + 1 = (s.device 2).settled ∧ (s.device 2).held = [] ++ parked :: [] ∧
      (s.device 2).held.length < (s.device 2).settled) :=
  ⟨⟨atRest rfl rfl rfl, rfl, by decide, rfl, by decide, rfl, rfl, rfl, rfl, rfl⟩,
    ⟨atRest rfl rfl rfl, rfl, rfl, rfl, rfl, rfl, rfl, rfl, by decide⟩,
    ⟨atRest rfl rfl rfl, rfl, rfl, rfl, rfl, rfl, by decide, by decide⟩,
    ⟨atRest rfl rfl rfl, rfl, rfl, by decide⟩⟩

theorem witness_DeviceTimersMoveTheMachine :
    (let s := gameWith .inPlay idle idle fun v => { idle v with held := [spare, parked] }
    s.AtRest ∧ (s.device 2).held = [spare] ++ parked :: [] ∧ (parked.tag = .parked ∨ parked.tag = .stray) ∧
      parked.holdAt = some 0 ∧ 0 ≤ s.now ∧ (∀ x ∈ [spare], ∀ u, x.holdAt = some u → s.now < u) ∧
      (s.device 2).queue.length < 8 ∧ (s.device 2).queue = [] ∧ (s.device 2).eject = .idle) ∧
    (let s := gameWith .inPlay idle idle fun v => { v with eject := .pulsing 0 none, queue := [⟨.release, 1⟩] }
    s.AtRest ∧ (s.device 2).eject = .pulsing 0 none ∧ 0 ≤ s.now ∧
      ∀ r ∈ (s.device 2).queue.head?, r.purpose ≠ .search) ∧
    (let s := gameWith .inPlay idle idle fun v =>
      { v with eject := .recovering 0, queue := [⟨.release, 1⟩], held := [⟨.releasing, 0, none⟩], attempts := 1 }
    s.AtRest ∧ (s.device 2).eject = .recovering 0 ∧ Instr.recoveryEnd 2 = .recoveryEnd 2 ∧ 0 ≤ s.now ∧
      s.ready 2 = true) ∧
    (let s := gameWith .inPlay idle idle fun v => { v with eject := .spacing 0 }
    s.AtRest ∧ (s.device 2).eject = .spacing 0 ∧ Instr.spacingEnd 2 = .spacingEnd 2 ∧ 0 ≤ s.now ∧
      (s.device 2).queue = []) :=
  ⟨⟨atRest rfl rfl rfl, rfl, .inl rfl, rfl, by decide, by simp [spare], by decide, rfl, rfl⟩,
    ⟨atRest rfl rfl rfl, rfl, by decide, by decide⟩, ⟨atRest rfl rfl rfl, rfl, rfl, by decide, rfl⟩,
    ⟨atRest rfl rfl rfl, rfl, rfl, by decide, rfl⟩⟩

/-- Device 2 at the end of a SEARCH pulse, with a head of some count and requests behind it. -/
def searchPulse (x : Search) (k : Nat) (rest : List Request) : State :=
  (gameWith .inPlay idle idle fun v =>
    { v with eject := .pulsing 0 none, queue := ⟨.search, k⟩ :: rest, held := [⟨.releasing, 0, none⟩] }).modTrack
    fun t => { t with search := x }

theorem witness_DeviceTimersMoveTheMachine_search :
    (let s := searchPulse (.searching 1 (some 2) 9) 2 []
    s.AtRest ∧ (s.device 2).eject = .pulsing 0 none ∧ 0 ≤ s.now ∧ (s.device 2).queue = ⟨.search, 2⟩ :: [] ∧
      s.track.search ≠ .idle) ∧
    ((searchPulse (.searching 1 (some 2) 9) 1 []).AtRest ∧
      ((searchPulse (.searching 1 (some 2) 9) 1 []).device 2).queue = ⟨.search, 1⟩ :: []) ∧
    (let s := searchPulse (.searching 1 (some 2) 9) 1 [⟨.release, 1⟩]
    s.AtRest ∧ (s.device 2).queue = ⟨.search, 1⟩ :: [⟨.release, 1⟩] ∧ s.track.search ≠ .idle ∧ 1 ≤ 1 ∧
      ∃ r ∈ [(⟨.release, 1⟩ : Request)].head?, s.headReady 2 r = true) :=
  ⟨⟨atRest rfl rfl rfl, rfl, by decide, rfl, by decide⟩, ⟨atRest rfl rfl rfl, rfl⟩,
    ⟨atRest rfl rfl rfl, rfl, by decide, by decide, ⟨_, rfl, rfl⟩⟩⟩

/-- A release of device 2 at the end of its confirm window. -/
def judging (exitAt : Option Nat) (attempts : Nat) : State := gameWith .inPlay idle idle fun v =>
  { v with
    eject := .confirming (some 0) exitAt, queue := [⟨.release, 2⟩], attempts := attempts
    held := [parked, ⟨.releasing, 0, none⟩, ⟨.releasing, 0, none⟩] }

theorem witness_ConfirmWindowsJudgeTheAttempt :
    (let s := judging none 0
    s.AtRest ∧ 2 ≤ (2 : DeviceId).val ∧ (s.device 2).eject = .confirming (some 0) none ∧ 0 ≤ s.now ∧
      (s.device 2).queue = ⟨.release, 2⟩ :: [] ∧ 1 ≤ 2 ∧ (s.device 2).attempts + 1 < 4 ∧ s.link.reports.length < 64) ∧
    ((judging none 3).AtRest ∧ ¬((judging none 3).device 2).attempts + 1 < 4) ∧
    (let s := judging (some 0) 0
    s.AtRest ∧ 2 ≤ (2 : DeviceId).val ∧ (s.device 2).eject = .confirming (some 0) (some 0) ∧ 0 ≤ s.now ∧
      (s.device 2).queue = ⟨.release, 1 + 1⟩ :: [] ∧
      (s.device 2).held = [parked] ++ ⟨.releasing, 0, none⟩ :: [⟨.releasing, 0, none⟩] ∧
      (∀ y ∈ [parked], y.tag ≠ .releasing) ∧ 1 ≤ 1 ∧ s.track.search = .idle ∧ s.link.reports.length < 64) :=
  ⟨⟨atRest rfl rfl rfl, by decide, rfl, by decide, rfl, by decide, by decide, by decide⟩,
    ⟨atRest rfl rfl rfl, by decide⟩,
    ⟨atRest rfl rfl rfl, by decide, rfl, by decide, rfl, rfl, by decide, by decide, rfl, by decide⟩⟩

/-- A release of device 2 whose settle timer expires at time `now`, with more or fewer balls settled. -/
def settlingRelease (e : Eject) (settled now : Nat) : State :=
  { gameWith .inPlay idle idle fun v =>
    { settles v with eject := e, settled := settled, queue := [⟨.release, 1⟩], held := [⟨.releasing, 0, none⟩] } with
    now := now }

theorem witness_ConfirmWindowsJudgeTheAttempt_settle :
    (let s := settlingRelease (.pulsing 9 none) 2 0
    s.AtRest ∧ 2 ≤ (2 : DeviceId).val ∧ (s.device 2).settleAt = some 0 ∧ 0 ≤ s.now ∧
      (s.device 2).queue = ⟨.release, 1⟩ :: [] ∧ (s.device 2).closed + 1 = (s.device 2).settled ∧
      (s.device 2).eject = .pulsing 9 none) ∧
    (let s := settlingRelease (.confirming (some 9) none) 2 0
    s.AtRest ∧ (s.device 2).closed + 1 = (s.device 2).settled ∧ (s.device 2).eject = .confirming (some 9) none) ∧
    (let s := settlingRelease (.confirming (some 900) (some 0)) 0 500
    s.AtRest ∧ s.running = true ∧ (s.device 2).settleAt = some 0 ∧ 0 ≤ s.now ∧
      (s.device 2).queue = ⟨.release, 0 + 1⟩ :: [] ∧ (s.device 2).closed = (s.device 2).settled + 1 ∧
      (s.device 2).eject = .confirming (some 900) (some 0) ∧ (s.device 2).held = [] ++ ⟨.releasing, 0, none⟩ :: [] ∧
      s.track.search = .idle ∧ s.now ≤ 0 + 500 ∧ (s.device 2).attempts + 1 < 4) ∧
    (let s := settlingRelease (.confirming (some 900) (some 0)) 0 501
    s.AtRest ∧ 0 + 500 < s.now ∧ ∀ p, s.decide 2 ≠ .lock p) :=
  ⟨⟨atRest rfl rfl rfl, by decide, rfl, by decide, rfl, rfl, rfl⟩, ⟨atRest rfl rfl rfl, rfl, rfl⟩,
    ⟨atRest rfl rfl rfl, rfl, rfl, by decide, rfl, rfl, rfl, rfl, rfl, by decide, by decide⟩,
    ⟨atRest rfl rfl rfl, by decide, by decide⟩⟩

/-- A settled decrease of one unit and one of two at device 2, which is JAMMED with a RELEASE at its head. -/
def unjamming (copies : List Bool) (k : Nat) : State := gameWith .inPlay idle idle fun v =>
  { settles v with
    eject := .jammed, copies := copies, settled := 2, attempts := 4, queue := [⟨.release, k + 1⟩]
    held := [parked, ⟨.releasing, 0, none⟩] }

theorem witness_ConfirmWindowsJudgeTheAttempt_jammed :
    (let s := unjamming [true, false] 1
    s.AtRest ∧ s.running = true ∧ 2 ≤ (2 : DeviceId).val ∧ (s.device 2).settleAt = some 0 ∧ 0 ≤ s.now ∧
      (s.device 2).eject = .jammed ∧ (s.device 2).queue = ⟨.release, 1 + 1⟩ :: [] ∧
      (s.device 2).held = [parked] ++ ⟨.releasing, 0, none⟩ :: [] ∧ (∀ y ∈ [parked], y.tag ≠ .releasing) ∧
      (s.device 2).closed < (s.device 2).settled ∧ (s.device 2).closed + 1 = (s.device 2).settled ∧
      s.track.search = .idle) ∧
    (let s := unjamming [false, false] 0
    s.AtRest ∧ (s.device 2).queue = ⟨.release, 0 + 1⟩ :: [] ∧ (s.device 2).closed < (s.device 2).settled ∧
      (s.device 2).closed + 2 = (s.device 2).settled ∧ 2 ≤ (s.device 2).held.length ∧
      (s.device 2).settled ≤ (s.device 2).held.length) :=
  ⟨⟨atRest rfl rfl rfl, rfl, by decide, rfl, by decide, rfl, rfl, rfl, by decide, by decide, rfl, rfl⟩,
    ⟨atRest rfl rfl rfl, rfl, by decide, rfl, by decide, by decide⟩⟩

theorem witness_LaunchesPutTheBallInPlay :
    (let s := (laned .ready).modDev fun u => { u with launchAt := some 0 }
    s.AtRest ∧ s.dev.launchAt = some 0 ∧ 0 ≤ s.now ∧ (s.device 1).held = [spare]) ∧
    (let s := (laned .inPlay).modDev fun u => { u with autoAt := some 0 }
    s.AtRest ∧ s.dev.autoAt = some 0 ∧ 0 ≤ s.now ∧ s.laneReady = true ∧ s.game.state = .inPlay ∧
      (s.device 1).record.launchCoil = true ∧ (s.device 1).eject = .idle ∧ (s.device 1).queue = []) ∧
    (let s := (game .inPlay).modDev fun u => { u with autoAt := some 0 }
    s.AtRest ∧ s.dev.autoAt = some 0 ∧ 0 ≤ s.now ∧ (s.laneReady = false ∨ s.game.state ≠ .inPlay)) :=
  ⟨⟨atRest rfl rfl rfl, rfl, by decide, rfl⟩, ⟨atRest rfl rfl rfl, rfl, by decide, rfl, rfl, rfl, rfl, rfl⟩,
    ⟨atRest rfl rfl rfl, rfl, by decide, .inl rfl⟩⟩

/-- A settled decrease at the lane, a fall-back of its attempt, a return to it and a phantom there. -/
theorem witness_LaunchesPutTheBallInPlay_settle :
    (let s := gameWith .ready idle (fun v => { settles v with copies := [], settled := 1, held := [spare] }) idle
    s.AtRest ∧ (s.device 1).settleAt = some 0 ∧ 0 ≤ s.now ∧ (s.device 1).eject ≠ .off ∧ (s.device 1).held = [spare] ∧
      s.dev.launchAt = none ∧ (s.device 1).closed < (s.device 1).settled) ∧
    (let s := (gameWith .serving idle (fun v =>
        { settles v with eject := .confirming (some 9) none, queue := [⟨.launch, 1⟩], held := [spare] }) idle).modDev
      fun u => { u with launchAt := some 9 }
    s.AtRest ∧ s.running = true ∧ (s.device 1).settleAt = some 0 ∧ 0 ≤ s.now ∧ (s.device 1).eject ≠ .off ∧
      (s.device 1).held = [spare] ∧ s.dev.launchAt = some 9 ∧ (s.device 1).settled < (s.device 1).closed ∧
      (∀ r ∈ (s.device 1).queue.head?, 1 ≤ r.count) ∧ (s.device 1).attempting = true) ∧
    (let s := (gameWith .serving idle settles idle).modTrack fun t => { t with free := 1 }
    s.AtRest ∧ s.running = true ∧ (s.device 1).settleAt = some 0 ∧ 0 ≤ s.now ∧ (s.device 1).eject ≠ .off ∧
      s.dev.launchAt = none ∧ (s.device 0).attempting = false ∧ s.track.search = .idle ∧
      (s.device 1).settled < (s.device 1).closed ∧ 1 ≤ s.track.free ∧ (s.device 1).held = []) ∧
    (let s := gameWith .serving idle settles idle
    s.AtRest ∧ (s.device 1).settled < (s.device 1).closed ∧ ¬1 ≤ s.track.free) ∧
    (let s := (gameWith .ready idle (fun v => { settles v with held := [spare] }) idle).modTrack fun t => { t with free := 1 }
    s.AtRest ∧ s.dev.launchAt = none ∧ (s.device 1).settled < (s.device 1).closed ∧ 1 ≤ s.track.free ∧
      (s.device 1).held ≠ []) :=
  ⟨⟨atRest rfl rfl rfl, rfl, by decide, by decide, rfl, rfl, by decide⟩,
    ⟨atRest rfl rfl rfl, rfl, rfl, by decide, by decide, rfl, rfl, by decide, by decide, rfl⟩,
    ⟨atRest rfl rfl rfl, rfl, rfl, by decide, by decide, rfl, rfl, rfl, by decide, by decide, rfl⟩,
    ⟨atRest rfl rfl rfl, by decide, by decide⟩, ⟨atRest rfl rfl rfl, rfl, by decide, by decide, by decide⟩⟩

/-- The lane at the end of its confirm window, after some failed attempts, with the launch confirmation open or not. -/
def laneWindow (attempts : Nat) (launchAt : Option Nat) : State :=
  (gameWith .ready idle (fun v =>
    { v with
      eject := .confirming (some 0) none, queue := [⟨.launch, 1⟩], held := [spare], attempts := attempts }) idle).modDev
    fun u => { u with launchAt := launchAt }

theorem witness_LaunchesPutTheBallInPlay_window :
    (let s := laneWindow 0 none
    s.AtRest ∧ (s.device 1).eject = .confirming (some 0) none ∧ 0 ≤ s.now ∧ s.dev.launchAt = none ∧
      (s.device 1).queue = ⟨.launch, 1⟩ :: [] ∧ 1 ≤ 1 ∧ (s.device 1).attempts + 1 < 4) ∧
    ((laneWindow 3 none).AtRest ∧ ¬((laneWindow 3 none).device 1).attempts + 1 < 4) ∧
    ((laneWindow 0 (some 700)).AtRest ∧ ((laneWindow 0 (some 700)).device 1).eject = .confirming (some 0) none ∧
      (laneWindow 0 (some 700)).dev.launchAt = some 700) :=
  ⟨⟨atRest rfl rfl rfl, rfl, by decide, rfl, rfl, by decide, by decide⟩, ⟨atRest rfl rfl rfl, by decide⟩,
    ⟨atRest rfl rfl rfl, rfl, rfl⟩⟩

theorem witness_CoilPowerGatesThePulses :
    (let s := (game .inPlay).modScan fun u => { u with lowRun := 10, power := .present }
    s.AtRest ∧ 10 ≤ s.scan.lowRun ∧ s.scan.power ≠ .absent) ∧
    (let s := (gameWith .inPlay idle idle fun v =>
        { v with eject := .waitPower, queue := [⟨.release, 1⟩], held := [⟨.releasing, 0, none⟩] }).modScan fun u =>
      { u with highRun := 10 }
    s.AtRest ∧ 10 ≤ s.scan.highRun ∧ s.scan.power ≠ .present ∧ (s.device 2).eject = .waitPower ∧ s.ready 2 = true) :=
  ⟨⟨atRest rfl rfl rfl, by decide, by decide⟩, ⟨atRest rfl rfl rfl, by decide, by decide, rfl, rfl⟩⟩

/-! ## Witnesses: search, hits, the link -/

/-- A ball lost on the playfield for 10 seconds, with a search-eligible hold device. -/
def lost (x : Search) : State := { gameWith .inPlay idle idle fun v =>
    { idle v with record := { v.record with searchEligible := true } } with
  now := 10000
  track := ⟨1, 0, 0, x⟩ }

theorem witness_SearchGoesRoundAndGivesUp :
    ((lost .idle).AtRest ∧ (lost .idle).running = true ∧ (lost .idle).track.search = .idle ∧
      (lost .idle).game.state = .inPlay ∧ 1 ≤ (lost .idle).track.free ∧ (∀ d, ((lost .idle).device d).attempting = false) ∧
      (lost .idle).track.lastActivity + 1000 * (lost .idle).settings.searchDelay ≤ (lost .idle).now) ∧
    (let s := lost (.searching 1 none 10000)
    s.AtRest ∧ s.running = true ∧ s.track.search = .searching 1 none 10000 ∧ 10000 ≤ s.now ∧
      s.nextSearchable none = some 2) ∧
    (let s := lost (.searching 4 (some 2) 10000)
    s.AtRest ∧ s.track.search = .searching 4 (some 2) 10000 ∧ s.nextSearchable (some 2) = none ∧ 4 < 5) ∧
    (let s := lost (.searching 5 (some 2) 10000)
    s.AtRest ∧ s.track.search = .searching 5 (some 2) 10000 ∧ s.nextSearchable (some 2) = none ∧ 5 ≤ 5) :=
  ⟨⟨atRest rfl rfl rfl, rfl, rfl, rfl, by decide, by decide, by decide⟩,
    ⟨atRest rfl rfl rfl, rfl, rfl, by decide, rfl⟩, ⟨atRest rfl rfl rfl, rfl, rfl, by decide⟩,
    ⟨atRest rfl rfl rfl, rfl, rfl, by decide⟩⟩

/-- The end of a search by a PLAYFIELD closure and by END_GAME, and a device at which a step queues its SEARCH. -/
theorem witness_SearchGoesRoundAndGivesUp_ends :
    ((lost .idle).nextSearchable none = some 2 ∧ ((lost .idle).device 2).queue.length < 8 ∧
      ∀ r ∈ ((lost .idle).device 2).queue.getLast?, r.purpose ≠ .search) ∧
    (let s := (switched .inPlay .playfield (qualifiedSwitch false)).modTrack fun t =>
      { t with search := .searching 1 none 9 }
    s.AtRest ∧ s.track.search = .searching 1 none 9 ∧ (s.switch 0).qualified = true ∧ (s.switch 0).filtered = false ∧
      (s.source (switchSource 0)).role = .playfield) ∧
    (let s := holding 0x23 [] (lost (.searching 5 none 9))
    s.AtRest ∧ s.running = true ∧ s.game.state ≠ .noGame ∧ s.track.search = .searching 5 none 9 ∧
      (∀ d, (s.device d).queue.length < 8) ∧ s.Takes 0x23 1 []) :=
  ⟨⟨rfl, by decide, by decide⟩, ⟨atRest rfl rfl rfl, rfl, rfl, rfl, rfl⟩,
    ⟨atRest rfl rfl rfl, rfl, by decide, rfl, by decide, takes rfl rfl⟩⟩

/-- A hit of switch 0 that waits, with an award at address 0. -/
def waiting (s : State) : State :=
  { s with hit := { HitUnit.cold with queue := [⟨0, 0, 255⟩], awards := [(0, fixedAward true)] } }

/-- A hit of switch 0 that waits, mode 5 on the stack with its page at 100, and an award on the base page at 0. -/
def paged (d : Descriptor) (awards : List (Nat × Award)) : State :=
  { gameMode .ready { d with pageBase := 100 } [frame5] with
    hit := { HitUnit.cold with queue := [⟨0, 0, 255⟩], awards := awards } }

theorem paged_inPlay (d : Descriptor) (awards : List (Nat × Award)) : (paged d awards).InPlay ⟨0, 0, 255⟩ 0 :=
  ⟨atRestWith rfl rfl rfl, rfl, rfl, rfl, rfl, rfl, playerCold_bounded⟩

/-- An entry EMPTY on the page of mode 5, and one that fails its condition there: the base page's entry applies. -/
theorem witness_HitsAreResolved_meets :
    (waiting (game .ballOver)).AtRest ∧ (waiting (game .ballOver)).hit.queue = ⟨0, 0, 255⟩ :: [] ∧
      (waiting (game .ballOver)).playable = false ∧
    (paged mode5 [(0, fixedAward true)]).Meets ⟨0, 0, 255⟩ none 0 1 1 (.award .fixed true false 750250 10 .none .none) ∧
    (paged mode5 [(0, fixedAward true), (100, .award .fixed true false 1 1 (.varSet 0) .none)]).Meets ⟨0, 0, 255⟩ none 0 1 1
      (.award .fixed true false 750250 10 .none .none) ∧
    (paged mode5 [(0, fixedAward true), (100, .award .fixed true false 1 1 .none (.startMode 6))]).Meets ⟨0, 0, 255⟩ (some 5)
      100 2 1 (.award .fixed true false 1 1 .none (.startMode 6)) ∧ (Action.startMode 6).Valid :=
  ⟨atRest rfl rfl rfl, rfl, rfl,
    ⟨⟨[some 5], [], rfl, by simpa using ⟨100, 8, 2, 1, rfl, .inr (.inl rfl)⟩, fun _ _ _ _ _ _ _ h => by cases h; exact ⟨rfl, fun h => rfl⟩⟩,
      ⟨0, 128, rfl, by decide, rfl, rfl⟩⟩,
    ⟨⟨[some 5], [], rfl, by simpa using ⟨100, 8, 2, 1, rfl, .inr (.inr ⟨_, _, _, _, _, _, _, rfl, rfl⟩)⟩,
      fun _ _ _ _ _ _ _ h => by cases h; exact ⟨rfl, fun h => rfl⟩⟩, ⟨0, 128, rfl, by decide, rfl, rfl⟩⟩,
    ⟨⟨[], [none], rfl, by simp, fun _ _ _ _ _ _ _ h => by cases h; exact ⟨rfl, fun h => by cases h⟩⟩,
      ⟨100, 8, rfl, by decide, rfl, rfl⟩⟩, trivial⟩

/-- The largest own advance at a FREE frame whose counter stands at its end. -/
theorem witness_HitsAreResolved_laps :
    let s : State := { paged free5 [(100, .award .fixed true false 1 1 .none (.advance none 15))] with
      mode := (gameMode .ready { free5 with pageBase := 100 } [{ frame5 with counter := 9999 }]).mode }
    s.InPlay ⟨0, 0, 255⟩ 0 ∧ (Action.advance none 15).Valid ∧
      s.Meets ⟨0, 0, 255⟩ (some 5) 100 2 1 (.award .fixed true false 1 1 .none (.advance none 15)) ∧
      (Action.advance none 15).target (some 5) = some 5 ∧ (s.descriptor 5).completion = none ∧
      (s.descriptor 5).lap = none ∧ (s.descriptor 5).counter = .free ∧ s.frame 5 = some { frame5 with counter := 9999 } :=
  ⟨⟨atRestWith rfl rfl rfl, rfl, rfl, rfl, rfl, rfl, playerCold_bounded⟩, ⟨by decide, by decide⟩,
    ⟨⟨[], [none], rfl, by simp, fun _ _ _ _ _ _ _ h => by cases h; exact ⟨rfl, fun h => by cases h⟩⟩,
      ⟨100, 8, rfl, by decide, rfl, rfl⟩⟩, rfl, rfl, rfl, rfl, rfl⟩

/-- A pass-through entry on the page of mode 5 above the base page's entry, and an own advance that completes mode 5. -/
theorem witness_HitsAreResolved_goes_on :
    (let s := paged mode5 [(0, fixedAward false), (100, .award .fixed false true 1 1 .none .none)]
    s.InPlay ⟨0, 0, 255⟩ 0 ∧ s.snapshot = [] ++ some 5 :: [] ++ none :: [] ∧
      s.PageHolds (s.source 0).offset (some 5) 100 2 1 (.award .fixed false true 1 1 .none .none) ∧
      s.PageHolds (s.source 0).offset none 0 1 1 (.award .fixed false false 750250 10 .none .none)) ∧
    (let s := paged { mode5 with completion := some 1023 }
      [(100, .award .fixed false false 1 1 .none (.advance none 15)), (1023, fixedAward false)]
    s.Meets ⟨0, 0, 255⟩ (some 5) 100 2 1 (.award .fixed false false 1 1 .none (.advance none 15)) ∧
      s.frame 5 = some frame5 ∧ (s.descriptor 5).counter = .count ∧ frame5.counter ≤ 15 ∧
      (s.descriptor 5).completion = some 1023 ∧
      awardAt s.hit.awards 1023 = .award .fixed false false 750250 10 .none .none) :=
  ⟨⟨paged_inPlay .., rfl, ⟨100, 8, rfl, by decide, rfl, rfl⟩, ⟨0, 128, rfl, by decide, rfl, rfl⟩⟩,
    ⟨⟨⟨[], [none], rfl, by simp, fun _ _ _ _ _ _ _ h => by cases h; exact ⟨rfl, fun h => by cases h⟩⟩,
      ⟨100, 8, rfl, by decide, rfl, rfl⟩⟩, rfl, rfl, by decide, rfl, rfl⟩⟩

/-- A receiver that holds bytes. -/
def receiving (l : List Byte) (now : Nat) : State :=
  { setup.modLink fun u => { u with receiver := .inFrame l 0 } with now := now }

theorem witness_ReceiverFramesTheBytes :
    (setup.AtRest ∧ setup.link.receiver = .hunting ∧ setup.frameWaits = false) ∧
    ((receiving [] 20).AtRest ∧ (receiving [] 20).link.receiver = .inFrame [] 0 ∧ (receiving [] 20).now ≤ 0 + 20) ∧
    ((receiving [240] 20).link.receiver = .inFrame (240 :: []) 0 ∧ (240 : Byte).toNat ≤ 240 ∧
      ([] : List Byte).length < (240 : Byte).toNat + 3 ∧ (receiving [240] 20).now ≤ 0 + 20) ∧
    ((receiving [0, 0x30, 5, 0xE2] 0).AtRest ∧ ([] : List Byte).length ≤ 240 ∧
      (receiving [0, 0x30, 5, 0xE2] 0).link.receiver =
        .inFrame (byte ([] : List Byte).length :: 0x30 :: 5 :: [] ++ [crc8 (byte ([] : List Byte).length :: 0x30 :: 5 :: [])])
          0) ∧
    ((0 : Byte).toNat = ([] : List Byte).length ∧
      (receiving [0, 0x30, 5, 0xE3] 0).link.receiver = .inFrame (0 :: 0x30 :: 5 :: [] ++ [0xE3]) 0 ∧
      (0xE3 : Byte) ≠ crc8 (0 :: 0x30 :: 5 :: []) ∧ ∀ b ∈ (0 :: 0x30 :: 5 :: [] ++ [0xE3] : List Byte), b ≠ 0xA9) ∧
    ((receiving [0, 0x30, 5, 0xA9] 0).link.receiver = .inFrame (0 :: 0x30 :: 5 :: [] ++ [0xA9]) 0 ∧
      (0xA9 : Byte) ≠ crc8 (0 :: 0x30 :: 5 :: []) ∧
      (0 :: 0x30 :: 5 :: [] ++ [0xA9] : List Byte) = [0, 0x30, 5] ++ 0xA9 :: [] ∧ readFrame [] = .more) ∧
    ((receiving [0] 21).link.receiver = .inFrame [0] 0 ∧ readFrame [0] = .more ∧ 0 + 20 < (receiving [0] 21).now) := by
  refine ⟨⟨atRest rfl rfl rfl, rfl, rfl⟩, ⟨atRest rfl rfl rfl, rfl, by decide⟩, ⟨rfl, by decide, by decide, by decide⟩,
    ⟨atRest rfl rfl rfl, by decide, ?_⟩, ⟨rfl, rfl, ?_, by decide⟩, ⟨rfl, ?_, rfl, rfl⟩, ⟨rfl, rfl, by decide⟩⟩
  · show _ = Receiver.inFrame ([0, 0x30, 5] ++ [crc8 [0, 0x30, 5]]) 0
    rw [crc8_identify]; rfl
  · show _ ≠ crc8 [0, 0x30, 5]
    rw [crc8_identify]; decide
  · show _ ≠ crc8 [0, 0x30, 5]
    rw [crc8_identify]; decide

/-- A bad frame in whose payload a good IDENTIFY frame stands: the bytes behind its sync byte read as that frame. -/
theorem witness_ReceiverFramesTheBytes_rescan :
    readFrame [0, 0x30, 5, 0xE2] = .whole ⟨0x30, 5, []⟩ true [] := by
  show Found.whole ⟨0x30, 5, []⟩ (crc8 [0, 0x30, 5] == 0xE2) [] = _
  rw [crc8_identify]; rfl

theorem witness_TransmitterKeepsTheOrder : setup.AtRest := atRest rfl rfl rfl

theorem witness_FramesArriveInTheBuffer :
    (let s := holding 0x18 [] setup
    s.AtRest ∧ WellFormed (.identify 1 []) ∧ hostFrame (.identify 1 []) = some (0x30, 1, []) ∧
      s.link.commands = ⟨0x18, 1, []⟩ :: [] ∧ (⟨0x18, 1, []⟩ : Command) ≠ ⟨0x30, 1, []⟩) ∧
    (setup.AtRest ∧ setup.link.commands = []) ∧
    (let s := (holding 0x30 [] setup).modLink fun l => { l with replies := List.replicate 4 ⟨0, .done [], 0⟩ }
    s.AtRest ∧ s.link.commands.head? = some ⟨0x30, 1, []⟩ ∧ 4 ≤ s.link.replies.length) :=
  ⟨⟨atRest rfl rfl rfl, by decide, rfl, rfl, by decide⟩, ⟨atRest rfl rfl rfl, rfl⟩,
    ⟨atRest rfl rfl rfl, rfl, by decide⟩⟩

/-! ## Witnesses: rules of the whole part and invariants -/

theorem witness_EveryTakenCommandIsAnswered : let s := holding 0x30 [] setup
    s.AtRest ∧ WellFormed (.identify 1 []) ∧ hostFrame (.identify 1 []) = some (0x30, 1, []) ∧ s.Takes 0x30 1 [] ∧
      (0x30 : Byte) ≠ 0x19 := ⟨atRest rfl rfl rfl, by decide, rfl, takes rfl rfl, by decide⟩

theorem witness_TablesStandInRunning :
    (game .inPlay).running = true ∧ (∃ t, exec .frameSent (game .inPlay) = .next t) ∧ Instr.frameSent ≠ .coldReset ∧
      (game .inPlay).game.state ≠ .noGame ∧ (gameMode .serving mode5 [frame5]).modeInUse 5 = true :=
  ⟨rfl, ⟨_, rfl⟩, by decide, by decide, rfl⟩

/-- Every player record of a game just started keeps its bounds. -/
theorem game_playersBounded : (game .inPlay).playersBounded := fun p => by
  fin_cases p <;> exact playerCold_bounded

theorem witness_ScoresNeverFall : (game .inPlay).playersBounded ∧ (∃ t, exec .frameSent (game .inPlay) = .next t) ∧
    Instr.frameSent ≠ .coldReset := ⟨game_playersBounded, ⟨_, rfl⟩, by decide⟩

/-- A RUNNING state with a command that waits meets the premises of StepsEndAtRest, QueuesStayBounded, AtMostTwoCoils and
CensusIsKept together. -/
theorem witness_StepsEndAtRest_QueuesStayBounded_AtMostTwoCoils_CensusIsKept :
    let s := { gameWith .inPlay (fun v => { idle v with held := [spare] }) idle idle with pending := [.frameSent] }
    s.filed ∧ s.marksHold ∧ s.QueuesBounded ∧ s.awardsCanonical ∧ s.ModesBounded ∧ s.coilsBounded ∧ s.censusHolds ∧
      ∃ t, step s = .next t :=
  ⟨rfl, (atRest rfl rfl rfl).marks, ⟨by decide, by decide, by decide, by decide, by decide, by decide⟩, rfl,
    ⟨by decide, by decide, fun _ => rfl, fun _ _ p _ => by fin_cases p <;> rfl⟩, by
    simp only [State.coilsBounded]; decide, by
    unfold State.censusHolds; exact (if_pos (c := State.running _ = true) rfl).mpr rfl, ⟨_, rfl⟩⟩

/-- A LOAD_AWARDS waits behind a table whose entries LOAD_AWARDS stores. -/
theorem witness_QueuesStayBounded_awards :
    let s := { holding 0x17 (loadPayload 1016 entries8) (waiting (game .inPlay)) with
      pending := [.loadAwards 1 (loadPayload 1016 entries8)] }
    s.hit.awards ≠ [] ∧ s.awardsValid ∧ ∃ t, step s = .next t := by
  refine ⟨by decide, fun e he => ?_, _, rfl⟩
  obtain rfl := List.mem_singleton.mp he
  exact ⟨by decide, by decide, trivial⟩

/-- The records, the pools and the warnings of a game keep their bounds. -/
theorem witness_RecordsAndPoolsStayBounded : (game .inPlay).playersBounded ∧ (game .inPlay).poolsBounded ∧
    (tilting 2).TiltsBounded ∧ (∃ t, step (tilting 2) = .next t) ∧ ∃ t, step (game .inPlay) = .next t :=
  ⟨game_playersBounded, fun j => by
    fin_cases j <;> exact ⟨by decide, by decide, by decide⟩,
    ⟨by decide, by decide, by decide, by decide, fun h => by cases h⟩, ⟨_, rfl⟩, ⟨_, rfl⟩⟩

/-! ## Witnesses: encodings and arithmetic -/

theorem witness_FramesReadBack : (List.replicate 240 (0xA9 : Byte)).length ≤ 240 := by
  rw [List.length_replicate]

theorem witness_SetupPayloadsReadBack : record2.Valid 2 ∧ descriptor31.Valid ∧ 1 ≤ entries8.length ∧
    entries8.length ≤ 8 ∧ 1016 + entries8.length ≤ 1024 :=
  ⟨witness_SetDeviceReplacesTheRecord.1.2.2.1, descriptor31_valid, by decide, by decide, by decide⟩

theorem witness_DecimalArithmeticIsExact : 99 < 10 ^ 2 ∧ 1 < 10 ^ 2 ∧ 99999999 ≤ 99999999 ∧ 99 ≤ 99 := by decide

theorem witness_ScoringStopsAtItsEnds : scoreMax ≤ scoreMax ∧ 9999999999 ≤ 9999999999 ∧ bonusMax ≤ bonusMax ∧
    9999 ≤ 9999 ∧ ((game .inPlay).record 0).score ≤ scoreMax := by decide

/-- A pool's award on the base page, and one award and five handed over from EMPTY addresses. -/
theorem witness_ScoringStopsAtItsEnds_pool :
    (let s := paged mode5 [(0, .award (.poolCollect 7) true false 99999999 0 .none .none)]
    s.InPlay ⟨0, 0, 255⟩ 0 ∧ (s.pool 7).Bounded ∧ 99999999 ≤ 99999999 ∧
      s.Meets ⟨0, 0, 255⟩ none 0 1 1 (.award (.poolCollect 7) true false 99999999 0 .none .none)) ∧
    (let handed : List Handed := [⟨0, .lap, 5, 1, 1⟩]
    handed ≠ [] ∧ (game .inPlay).out = [] ∧ ∀ h ∈ handed, awardAt (game .inPlay).hit.awards h.address = .empty) ∧
    (let handed : List Handed := List.replicate 5 ⟨0, .lap, 5, 1, 1⟩
    handed ≠ [] ∧ (game .inPlay).out = [] ∧ 4 < handed.length ∧
      ∀ h ∈ handed, awardAt (game .inPlay).hit.awards h.address = .empty) :=
  ⟨⟨paged_inPlay .., ⟨by decide, by decide, by decide⟩, by decide,
    ⟨⟨[some 5], [], rfl, by simpa using ⟨100, 8, 2, 1, rfl, .inr (.inl rfl)⟩,
      fun _ _ _ _ _ _ _ h => by cases h; exact ⟨rfl, fun h => rfl⟩⟩, ⟨0, 128, rfl, by decide, rfl, rfl⟩⟩⟩,
    ⟨by decide, rfl, by decide⟩, ⟨by decide, rfl, by decide, by decide⟩⟩

theorem witness_OfferedClosuresArePlaced : setup.hit.queue = [] ∧
    (waiting (game .ready)).hit.queue = [] ++ [⟨0, 0, 255⟩] := ⟨rfl, rfl⟩

/-! ## One step of the families, by hand from the rules -/

/-- R13: a closure of the newest entry's source at repeat count 255 is dropped, and notice SWITCH_OVERRUN is set. -/
theorem test_closure_dropped : (offerClosure 0 (waiting (game .ready))).link.notices = Notice.switchOverrun.mask := by decide

/-- R24: the ball parked at device 2 is RELEASING once its hold timer has expired. -/
theorem test_hold_expiry :
    ((holdExpiry 2 (gameWith .inPlay idle idle fun v => { idle v with held := [parked] })).device 2).held =
      [⟨.releasing, 0, none⟩] := by decide

/-- R52, R71: the drain of the last ball ends the ball. -/
theorem test_drain_ends_ball : (settleExpiry 0 (draining .off 1)).game.state = .ballOver := by decide

/-- R50, R83, R90: of two drains of one settled change at live count 2 the first ends the multiball, with its report behind
the drain's BALL_IN. -/
theorem test_two_drains_told_one_by_one :
    ((settleExpiry 0 (((draining .off 2).modDevice 0 fun v => { v with copies := [true, true] }).modGame fun g =>
      { g with multiball := true })).link.reports.map (·.report)).take 2 = [.ballIn 0 .spare 1, .multiballOver 1] := by decide

/-- R130: a frame whose time was set to 500 ms after the millisecond that ended it loses that millisecond still. -/
theorem test_owed_decrease : ((modeEnd 5 (expiring5 500 mode5)).frame 5).map (·.remaining) = some (some 499) := by decide

/-- R180: a byte that comes 21 ms after the last discards the frame with LINE_ERROR, and hunting goes on with it. -/
theorem test_late_byte : (takeByte 0xA9 (frameTimeout (receiving [0] 21))).link.receiver = .inFrame [] 21 ∧
    (frameTimeout (receiving [0] 21)).link.notices = Notice.lineError.mask := by decide

/-- R10: the first sample finds a switch open, and its stuck timer goes. -/
theorem test_first_sample_open : (Switch.first false ⟨true, 0, false, false, some 9⟩).stuckAt = none := by decide

end Sys2Proof.Tests
end

section
/-! The placing of an offered closure (R13): first what `placeClosure` answers on each shape of the queue, then what each
answer does to the state. -/

namespace Sys2Proof.Machine

/-! ## The three outcomes on the queue -/

section
variable {x : SourceId} {t : Stamp} {older : List Hit} {h : Hit}

@[simp] theorem placeClosure_nil : placeClosure x t [] = some [⟨x, t, 1⟩] := rfl

/-- The newest entry has the closure's source: the queue keeps its length, and only the repeat count can refuse. -/
theorem placeClosure_same_source (hx : h.source = x) :
    placeClosure x t (older ++ [h]) =
      if h.repeats < 255 then some (older ++ [{ h with repeats := h.repeats + 1 }]) else none := by
  simp [placeClosure, hx]

/-- The newest entry has another source: only the queue's length can refuse. -/
theorem placeClosure_other_source (hx : h.source ≠ x) :
    placeClosure x t (older ++ [h]) =
      if (older ++ [h]).length < hitLimit then some (older ++ [h, ⟨x, t, 1⟩]) else none := by
  simp [placeClosure, hx]

end

/-! ## What the state becomes -/

section
variable {x : SourceId} {s : State}

theorem offerClosure_placed {q : List Hit} (h : placeClosure x s.clock s.hit.queue = some q) :
    offerClosure x s = s.modHit fun u => { u with queue := q } := by
  simp only [offerClosure, h]

theorem offerClosure_dropped (h : placeClosure x s.clock s.hit.queue = none) :
    offerClosure x s = s.notice .switchOverrun := by
  simp only [offerClosure, h]

/-- A bound that decides between placing and dropping on the queue decides it on the state. -/
theorem offerClosure_of_bound {bound : Prop} [Decidable bound] {q : List Hit}
    (h : placeClosure x s.clock s.hit.queue = if bound then some q else none) :
    offerClosure x s = if bound then s.modHit fun u => { u with queue := q } else s.notice .switchOverrun := by
  split
  · next hb => exact offerClosure_placed (h.trans (if_pos hb))
  · next hb => exact offerClosure_dropped (h.trans (if_neg hb))

end

/-- Settles O60: by the source of the newest entry, then by the bound that this source puts to the test. -/
theorem offeredClosuresArePlaced : Obligations.OfferedClosuresArePlaced := by
  refine fun s x => ⟨fun hq => offerClosure_placed (by rw [hq, placeClosure_nil]), fun older h hq => ?_⟩
  by_cases hx : h.source = x
  · rw [if_pos hx]
    exact offerClosure_of_bound (by rw [hq, placeClosure_same_source hx])
  · rw [if_neg hx]
    exact offerClosure_of_bound (by rw [hq, placeClosure_other_source hx, hitLimit])

end Sys2Proof.Machine
end

section
/-! The taking of ADD_PLAYER (R74): when there is no room for a player, what its event does where there is room, and the
answer of each of its checks. -/

namespace Sys2Proof.Machine

section
variable {s : State} {tag : Byte}

/-! ## The condition and the effect -/

theorem State.noRoomForPlayer_iff :
    s.noRoomForPlayer = true ↔ s.game.state = .noGame ∨ 2 ≤ s.game.ball ∨ 4 ≤ s.game.players := by
  simp [State.noRoomForPlayer, State.noGame, or_assoc]

/-- The number of players is no part of the live count, the game state, the attempts or the mode timers, so nothing follows
the effect but the filing of its report. -/
theorem event_addPlayer (hf : s.filed) (hm : s.marksHold) :
    event (fun s => (addPlayer s).1) s =
      queueReport (.playerAdded (s.game.players + 1) (s.game.players + 1))
        (s.modGame fun g => { g with players := s.game.players + 1 }) := by
  rw [event_still (fun _ => rfl) (fun _ h => h) (fun _ h => h) hm]
  exact flush_one hf

/-! ## The checks -/

/-- In RUNNING what is left to check is the room for a player. -/
theorem carryAddPlayer_running (hr : s.running = true) :
    carryAddPlayer [] s = refuseWhen .notAllowed State.noRoomForPlayer (carryEvent addPlayer) s := by
  rw [carryAddPlayer, checkLength_eq 0 [] _ rfl, inRunning_running _ hr]

theorem carryAddPlayer_setup (hr : s.running = false) : carryAddPlayer [] s = (s, .refused .wrongState) := by
  rw [carryAddPlayer, checkLength_eq 0 [] _ rfl, inRunning_setup _ hr]

theorem carryAddPlayer_refused (hr : s.running = true) (hn : s.noRoomForPlayer = true) :
    carryAddPlayer [] s = (s, .refused .notAllowed) := by
  rw [carryAddPlayer_running hr, refuseWhen_true _ hn]

theorem carryAddPlayer_done (hr : s.running = true) (hn : s.noRoomForPlayer = false) (hf : s.filed) (hm : s.marksHold) :
    carryAddPlayer [] s =
      (queueReport (.playerAdded (s.game.players + 1) (s.game.players + 1))
        (s.modGame fun g => { g with players := s.game.players + 1 }), .done [byte (s.game.players + 1)]) := by
  rw [carryAddPlayer_running hr, refuseWhen_false _ hn, carryEvent, event_addPlayer hf hm, addPlayer]

/-! ## The row -/

/-- Where the part takes ADD_PLAYER next, its row is what its checks and its effect give, with the reply behind. -/
theorem exec_addPlayer_taken {t : State} {a : Answer} (hs : s.AtRest) (ht : s.Takes 0x21 tag [])
    (hc : carryAddPlayer [] s.taken = (t, a)) : exec (.addPlayer tag []) s = .next (queueReply tag a t) := by
  have h := row_taken (carryAddPlayer []) hs.awake ht
  rw [hc] at h
  exact h

end

/-- Settles O14: by the outcome of the checks on the state that the command has left. -/
theorem addPlayerAddsOne : Obligations.AddPlayerAddsOne := by
  refine ⟨fun s tag hs hr hg hb hp ht => ?_, fun s tag hs hr hn ht => ?_, fun s tag hs hr ht => ?_⟩
  · have hroom : s.taken.noRoomForPlayer = false :=
      Bool.eq_false_iff.mpr fun hn => by
        obtain h | h | h := State.noRoomForPlayer_iff.mp hn
        · exact hg h
        · rw [taken_game] at h; omega
        · rw [taken_game] at h; omega
    exact exec_addPlayer_taken hs ht (carryAddPlayer_done hr hroom hs.filed (taken_marks hs.marks))
  · exact exec_addPlayer_taken hs ht (carryAddPlayer_refused hr (State.noRoomForPlayer_iff.mpr hn))
  · exact exec_addPlayer_taken hs ht (carryAddPlayer_setup hr)

end Sys2Proof.Machine
end

section
/-! Exact decimal arithmetic (R163, R164): what the digits of a number stand for, the adder on the digits of two numbers,
and each step of the multiplier as arithmetic in its field. -/

namespace Sys2Proof.Machine

section
variable {n k v a b c m acc : Nat}

/-! ## Digits -/

theorem ofDigits_digits : ofDigits (digits n v) = v % 10 ^ n := by
  induction n generalizing v with
  | zero => simp [digits, ofDigits, Nat.mod_one]
  | succ n ih => rw [digits, ofDigits, ih, Nat.pow_succ', Nat.mod_mul]

theorem digits_succ_take : (digits (n + 1) v).take n = digits n v := by
  induction n generalizing v with
  | zero => rfl
  | succ n ih => rw [digits, List.take_succ_cons, ih, digits]

/-- A zero put before the least significant digit, in a field of fixed width, multiplies by ten. -/
theorem zero_digits_take : (0 :: digits n v).take n = digits n (10 * v) := by
  cases n with
  | zero => rfl
  | succ n => rw [List.take_succ_cons, digits_succ_take, digits, Nat.mul_mod_right, Nat.mul_div_cancel_left v (by decide)]

/-! ## The adder (R163) -/

/-- One place of the adder: the digit it keeps. -/
theorem digit_of_sum (hc : c ≤ 1) :
    (if 10 ≤ a % 10 + b % 10 + c then a % 10 + b % 10 + c - 10 else a % 10 + b % 10 + c) = (a + b + c) % 10 := by
  split <;> omega

/-- One place of the adder: the places above it, with its carry, add up to the rest of the sum. -/
theorem rest_of_sum (hc : c ≤ 1) :
    a / 10 + b / 10 + (if 10 ≤ a % 10 + b % 10 + c then 1 else 0) = (a + b + c) / 10 := by
  split <;> omega

/-- The adder leaves the digits of the sum with the carry in, and carries out what the digits do not hold. -/
theorem addDigits_digits (ha : a < 10 ^ n) (hb : b < 10 ^ n) (hc : c ≤ 1) :
    addDigits (digits n a) (digits n b) c = (digits n (a + b + c), (a + b + c) / 10 ^ n) := by
  induction n generalizing a b c with
  | zero =>
    obtain rfl : a = 0 := by simpa using ha
    obtain rfl : b = 0 := by simpa using hb
    simp [digits, addDigits]
  | succ n ih =>
    have hcarry : (if 10 ≤ a % 10 + b % 10 + c then 1 else 0) ≤ 1 := by split <;> decide
    rw [Nat.pow_succ] at ha hb
    simp only [digits, addDigits]
    rw [ih (by omega) (by omega) hcarry, digit_of_sum hc, rest_of_sum hc, Nat.div_div_eq_div_mul, ← Nat.pow_succ']

/-- The carry out of the last place is 1 exactly when the sum of two numbers of `n` digits needs another digit. -/
theorem decAdd_eq (ha : a < 10 ^ n) (hb : b < 10 ^ n) :
    decAdd n a b = ((a + b) % 10 ^ n, decide (10 ^ n ≤ a + b)) := by
  have hcarry : (a + b) / 10 ^ n = 1 ↔ 10 ^ n ≤ a + b := by
    rw [Nat.div_eq_iff (by omega)]
    omega
  simp only [decAdd, addDigits_digits ha hb (Nat.zero_le 1), Nat.add_zero, ofDigits_digits, Prod.mk.injEq, true_and]
  rw [Bool.eq_iff_iff, beq_iff_eq, decide_eq_true_iff, hcarry]

theorem decAdd_fst_of_lt (h : a + b < 10 ^ n) : (decAdd n a b).1 = a + b := by
  rw [decAdd_eq (by omega) (by omega)]
  exact Nat.mod_eq_of_lt h

/-! ## The multiplier (R164) -/

/-- Step 1: the additions, as long as the field of 10 digits holds their sum. -/
theorem addRepeatedly_eq (h : acc + k * v < 10 ^ productDigits) : addRepeatedly k v acc = acc + k * v := by
  induction k generalizing acc with
  | zero => simp [addRepeatedly]
  | succ k ih =>
    rw [Nat.succ_mul, Nat.add_comm (k * v), ← Nat.add_assoc] at h ⊢
    rw [addRepeatedly, decAdd_fst_of_lt (by omega), ih h]

/-- Step 2: the shift, as long as the digit shifted out is 0. -/
theorem shiftDecimal_eq (h : 10 * v < 10 ^ productDigits) : shiftDecimal v = 10 * v := by
  rw [shiftDecimal, zero_digits_take, ofDigits_digits, Nat.mod_eq_of_lt h]

/-- The sums of both digits of the multiplier, and the product, stay within the field whenever the product does. -/
theorem decMul_eq (h : v * m < 10 ^ productDigits) : decMul v m = v * m := by
  have hsplit : m % 10 * v + 10 * (m / 10 * v) = v * m := by
    rw [← Nat.mul_assoc, ← Nat.add_mul, Nat.mod_add_div, Nat.mul_comm]
  have hunits : addRepeatedly (m % 10) v 0 = m % 10 * v := by
    rw [addRepeatedly_eq (by omega), Nat.zero_add]
  have htens : addRepeatedly (m / 10) v 0 = m / 10 * v := by
    rw [addRepeatedly_eq (by omega), Nat.zero_add]
  rw [decMul, hunits, htens, shiftDecimal_eq (by omega), decAdd_fst_of_lt (by omega), hsplit]

end

/-- Settles O58: the largest product, 99999999 * 99, is below 10 to the 10th, the width of the multiplier's field. -/
theorem decimalArithmeticIsExact : Obligations.DecimalArithmeticIsExact := by
  refine ⟨fun n a b => decAdd_eq, fun v m hv hm => decMul_eq ?_⟩
  calc v * m ≤ 99999999 * 99 := Nat.mul_le_mul hv hm
    _ < 10 ^ productDigits := by decide

end Sys2Proof.Machine
end

section
/-! The taking of RESTART (R190): what each block of the part holds once it has returned to SETUP, which conditions of the
notices are left there, and the row of the command with its reply. -/

namespace Sys2Proof.Machine

section
variable {s : State} {tag : Byte}

/-! ## The blocks -/

@[simp] theorem restartPart_settings : (restartPart s).settings = s.settings := rfl
@[simp] theorem restartPart_scan : (restartPart s).scan = s.scan := rfl
@[simp] theorem restartPart_now : (restartPart s).now = s.now := rfl
@[simp] theorem restartPart_game : (restartPart s).game = .cold := rfl
@[simp] theorem restartPart_lock : (restartPart s).lock = .cold := rfl

@[simp] theorem restartPart_dev :
    (restartPart s).dev = ⟨updAll s.dev.devices fun _ => Device.restart, none, none, .none, false⟩ := rfl

@[simp] theorem restartPart_track :
    (restartPart s).track = { s.track with free := 0, missing := 0, search := .idle } := rfl

@[simp] theorem restartPart_mode :
    (restartPart s).mode = { s.mode with stack := [], carried := Vector.replicate 4 [], serial := 0 } := rfl

@[simp] theorem restartPart_hit :
    (restartPart s).hit = { s.hit with queue := [], vars := Vector.replicate 4 (Vector.replicate 16 0) } := rfl

@[simp] theorem restartPart_score :
    (restartPart s).score = { s.score with pools := updAll s.score.pools fun _ => Pool.toBase } := rfl

/-! ## The notices -/

/-- Every eject machine is OFF after a RESTART, so none is JAMMED. -/
theorem clearPart_anyJammed : (clearPart s).anyJammed = false := by
  rw [State.anyJammed, List.any_eq_false]
  intro v hv
  obtain ⟨i, hi, rfl⟩ := Vector.getElem_of_mem (Vector.mem_toList_iff.mp hv)
  simp [clearPart, Device.restart]

/-- No device is JAMMED and no ball is missing in SETUP: only the conditions of the Switch Scanner are left. -/
theorem clearPart_conditions :
    (clearPart s).conditions =
      conditionBit .coilPowerLost (s.scan.power == .absent) ||| conditionBit .switchStuck s.anyStuck := by
  have hmissing : ((clearPart s).running && decide (1 ≤ (clearPart s).track.missing)) = false := rfl
  rw [State.conditions, clearPart_anyJammed, hmissing]
  simp [conditionBit, clearPart, State.anyStuck]

theorem restartPart_link :
    (restartPart s).link = { s.link.restart with
      notices := (s.link.notices &&& 0xF0) ||| conditionBit .coilPowerLost (s.scan.power == .absent) |||
        conditionBit .switchStuck s.anyStuck } := by
  have h : (restartPart s).link = { s.link.restart with
      notices := (s.link.notices &&& 0xF0) ||| (clearPart s).conditions } := rfl
  rw [h, clearPart_conditions, BitVec.or_assoc]

/-! ## The tables, entry by entry -/

theorem restartPart_device (d : DeviceId) : (restartPart s).device d = (s.device d).restart := by
  simp [State.device]

theorem restartPart_pool (j : Fin 8) : (restartPart s).pool j = (s.pool j).toBase := by
  simp [State.pool]

theorem restartPart_var (p : PlayerId) (v : Fin 16) : (restartPart s).var p v = 0 := by
  simp [State.var]

/-! ## The views of the state that a reply leaves -/

@[simp] theorem queueReply_pool (a : Answer) (j : Fin 8) : (queueReply tag a s).pool j = s.pool j := rfl
@[simp] theorem queueReply_var (a : Answer) (p : PlayerId) (v : Fin 16) : (queueReply tag a s).var p v = s.var p v := rfl
@[simp] theorem queueReply_device (a : Answer) (d : DeviceId) : (queueReply tag a s).device d = s.device d := rfl

/-! ## The row -/

/-- RESTART clears the command buffer, whether or not it has left the buffer itself. -/
theorem restartPart_taken : restartPart s.taken = restartPart s := rfl

/-- Where the part takes RESTART next, the commands removed from behind it are those of the buffer but itself. -/
theorem exec_restart_taken (hs : s.AtRest) (ht : s.Takes 0x19 tag []) :
    exec (.restart tag []) s =
      .next (queueReply tag (.done [byte (s.link.commands.length - 1)]) (restartPart s)) := by
  have hcount : s.taken.link.commands.length = s.link.commands.length - 1 := List.length_tail
  have h := row_taken (carryRestart []) hs.awake ht
  rw [carryRestart, checkLength_eq 0 [] _ rfl, countedRestart, hcount, restartPart_taken] at h
  exact h

end

/-- Settles O12: the tables of the part are read entry by entry through the reply, the other fields in their blocks. -/
theorem restartKeepsTheConfiguration : Obligations.RestartKeepsTheConfiguration := by
  intro s tag hs ht
  refine ⟨_, exec_restart_taken hs ht, ?_⟩
  simp only [queueReply_device, queueReply_pool, queueReply_var, restartPart_device, restartPart_pool, restartPart_var]
  simp [queueReply, Device.restart, restartPart_link, LinkUnit.restart]

end Sys2Proof.Machine
end

section
/-! The flags, the mask and ATTN_N (R200, R201): the flags that a CLEAR_NOTICES leaves, read at the bit of each notice; when
ATTN_N is low; and the rows of the two commands, whose effects stay in the Link Unit. -/

namespace Sys2Proof.Machine

/-! ## The bits of the notices -/

theorem Notice.bit_lt (n : Notice) : n.bit < 8 := by cases n <;> decide

/-- Every bit of a notice byte is the bit of a notice. -/
theorem Notice.exists_bit_eq {i : Nat} (hi : i < 8) : ∃ n : Notice, n.bit = i :=
  match i, hi with
  | 0, _ => ⟨.lineError, rfl⟩
  | 1, _ => ⟨.reportOverrun, rfl⟩
  | 2, _ => ⟨.switchOverrun, rfl⟩
  | 3, _ => ⟨.phantomEntry, rfl⟩
  | 4, _ => ⟨.deviceJammed, rfl⟩
  | 5, _ => ⟨.coilPowerLost, rfl⟩
  | 6, _ => ⟨.ballMissing, rfl⟩
  | 7, _ => ⟨.switchStuck, rfl⟩

/-- As the notices fill the byte, a byte that is not 0 has the bit of a notice. -/
theorem ne_zero_iff_exists_notice (b : BitVec 8) : b ≠ 0 ↔ ∃ n : Notice, b.getLsbD n.bit = true := by
  constructor
  · intro hb
    by_contra hnone
    refine hb (BitVec.eq_of_getLsbD_eq fun i hi => ?_)
    obtain ⟨n, rfl⟩ := Notice.exists_bit_eq hi
    simpa using not_exists.mp hnone n
  · rintro ⟨n, hn⟩ rfl
    simp at hn

theorem getLsbD_clearedNotices (flags conditions named : BitVec 8) (n : Notice) :
    (clearedNotices flags conditions named).getLsbD n.bit =
      (flags.getLsbD n.bit && !(named.getLsbD n.bit && !conditions.getLsbD n.bit)) := by
  simp [clearedNotices, n.bit_lt]

/-! ## The rows -/

section
variable {s : State} {tag : Byte}

/-- The Link Unit holds no part of the live count, the game state, the attempts or the mode timers, so nothing follows an
effect on it. -/
theorem event_modLink (g : State → LinkUnit → LinkUnit) (hf : s.filed) (hm : s.marksHold) :
    event (fun t => t.modLink (g t)) s = s.modLink (g s) := by
  rw [event_still (fun _ => rfl) (fun _ h => h) (fun _ h => h) hm]
  exact flush_none hf

theorem carryClearNotices_done (named : Byte) (hf : s.filed) (hm : s.marksHold) :
    carryClearNotices [named] s =
      (s.modLink fun l => { l with notices := clearedNotices l.notices s.conditions named },
        .done [clearedNotices s.link.notices s.conditions named]) := by
  rw [carryClearNotices, checkLength_eq 1 [named] _ rfl]
  exact congrArg (·, _) (event_modLink _ hf hm)

theorem carrySetNoticeMask_done (mask : Byte) (hf : s.filed) (hm : s.marksHold) :
    carrySetNoticeMask [mask] s = (s.modLink fun l => { l with mask := mask }, .done [mask]) := by
  rw [carrySetNoticeMask, checkLength_eq 1 [mask] _ rfl]
  exact congrArg (·, _) (event_modLink _ hf hm)

theorem exec_clearNotices_taken {named : Byte} (hs : s.AtRest) (ht : s.Takes 0x3A tag [named]) :
    exec (.clearNotices tag [named]) s =
      .next (queueReply tag (.done [clearedNotices s.link.notices s.conditions named])
        (s.taken.modLink fun l => { l with notices := clearedNotices s.link.notices s.conditions named })) := by
  have h := row_taken (carryClearNotices [named]) hs.awake ht
  rw [carryClearNotices_done (s := s.taken) named hs.filed (taken_marks hs.marks)] at h
  exact h

theorem exec_setNoticeMask_taken {mask : Byte} (hs : s.AtRest) (ht : s.Takes 0x3B tag [mask]) :
    exec (.setNoticeMask tag [mask]) s =
      .next (queueReply tag (.done [mask]) (s.taken.modLink fun l => { l with mask := mask })) := by
  have h := row_taken (carrySetNoticeMask [mask]) hs.awake ht
  rw [carrySetNoticeMask_done (s := s.taken) mask hs.filed (taken_marks hs.marks)] at h
  exact h

/-! ## ATTN_N -/

theorem State.attnLow_iff : s.attnLow = true ↔
    s.resetHeld = false ∧ ∃ n : Notice, s.link.notices.getLsbD n.bit = true ∧ s.link.mask.getLsbD n.bit = true := by
  rw [State.attnLow, Bool.and_eq_true, Bool.not_eq_true', bne_iff_ne, ne_zero_iff_exists_notice]
  simp only [BitVec.getLsbD_and, Bool.and_eq_true]

end

/-- Settles O29: the rows give the whole states; the flags and ATTN_N are then read notice by notice. -/
theorem noticesAreClearedAndMasked : Obligations.NoticesAreClearedAndMasked :=
  ⟨fun _ _ _ hs ht => ⟨_, exec_clearNotices_taken hs ht, getLsbD_clearedNotices _ _ _⟩,
    fun _ _ _ hs ht => exec_setNoticeMask_taken hs ht,
    fun _ => State.attnLow_iff⟩

end Sys2Proof.Machine
end
